-- ==== Sys2Proof/Word.lean ====
section
/-! DEFINITION. The plain data every other file is written over: bytes, tables of a fixed size, the four ports, and the
shapes of what arrives from the two converters (1.1) and in the operands of WRITE RECIPE (R186). -/

namespace Sys2Proof

/-- One byte of a transaction (R167). -/
abbrev Byte := BitVec 8

/-- A table of exactly `n` like things (twelve zones, two scales, 256 history slots): a list with its length. -/
structure Table (α : Type) (n : Nat) where
  /-- The entries, entry 0 first. -/
  toList : List α
  /-- There are exactly `n`. -/
  size_eq : toList.length = n
  deriving DecidableEq, Repr

namespace Table

variable {α β : Type} {n : Nat}

/-- Entry `i`. -/
def get (t : Table α n) (i : Fin n) : α :=
  t.toList[i.val]'(t.size_eq.symm ▸ i.isLt)

/-- The table with entry `i` replaced. -/
def set (t : Table α n) (i : Fin n) (a : α) : Table α n :=
  ⟨t.toList.set i.val a, by rw [List.length_set, t.size_eq]⟩

/-- The table whose entry `i` is `f i`. -/
def ofFn (f : Fin n → α) : Table α n :=
  ⟨List.ofFn f, List.length_ofFn⟩

/-- The table with entry `i` changed by `f`. -/
def modify (t : Table α n) (i : Fin n) (f : α → α) : Table α n :=
  t.set i (f (t.get i))

/-- Every entry changed by `f`, which also gets the entry's index. -/
def mapIdx (t : Table α n) (f : Fin n → α → β) : Table β n :=
  ofFn fun i => f i (t.get i)

/-- The table whose entries are all `a`. -/
def replicate (n : Nat) (a : α) : Table α n :=
  ⟨List.replicate n a, List.length_replicate⟩

end Table

/-- The four station ports (0.3). -/
inductive Port where
  | press | charge | handler | trace
  deriving DecidableEq, Repr

/-- The two converters of the converter link (1.1). -/
inductive Converter where
  | thermocouple | loadCell
  deriving DecidableEq, Repr

/-- The status codes an acceptable thermocouple result carries (R5). -/
inductive TcResult where
  | ok | open_ | range
  deriving DecidableEq, Repr

/-- The status codes an acceptable load-cell result carries (R6). -/
inductive LcResult where
  | ok | overrange
  deriving DecidableEq, Repr

/-- Why a converter reply cannot be taken: the four cases of R8. -/
inductive Unusable where
  /-- Its check byte does not agree with its contents. -/
  | badCheck
  /-- Its status code is not one the converter may give. -/
  | badStatus
  /-- It names a channel other than the one outstanding. -/
  | wrongChannel
  /-- It arrives in the gap in which no conversion is outstanding. -/
  | noConversion
  deriving DecidableEq, Repr

/-- A charge group's three weights as WRITE RECIPE's operands spell them (R186, offset 16). -/
structure GroupOperand where
  target : BitVec 16
  lowTol : BitVec 16
  highTol : BitVec 16
  deriving DecidableEq, Repr

/-- A breakpoint as WRITE RECIPE's operands spell it: a signed temperature, then a rate (R186, offset 72). -/
structure BreakpointOperand where
  temp : BitVec 16
  rate : BitVec 16
  deriving DecidableEq, Repr

/-- The 114-byte recipe body of WRITE RECIPE, field by field in the widths of R186, before any check or clamping. -/
structure RecipeBody where
  mouldId : BitVec 16
  revision : BitVec 8
  cavityCount : BitVec 8
  groupOf : Table (BitVec 8) 4
  maskOf : Table (BitVec 16) 4
  groups : Table GroupOperand 4
  setpoints : Table (BitVec 16) 12
  cureTarget : BitVec 32
  overCure : BitVec 32
  rates : Table BreakpointOperand 8
  bumpCount : BitVec 8
  demouldWindow : BitVec 16
  outTime : BitVec 16
  loadMargin : BitVec 16
  takeLimit : BitVec 8
  blindLimit : BitVec 16
  deriving DecidableEq, Repr

end Sys2Proof
end

