-- ==== Sys2Proof/Syntax.lean ====
section
/-! DEFINITION. The commands of the block: one constructor for each row of spec/opcode_table.json, with the row's
operands in the widths of Table 11.3 (R181). A request or report carries the port it is sent on, since the port check of
R169 depends on it. The rows that are no transaction are what the world does: the reset line, the run clock, converter
replies, mains pulses, and the deadlines the part keeps. -/

namespace Sys2Proof

/-- The commands. -/
inductive Instr where
  /-- The reset line is pulled and released (R13, R34, R53, R78, R97, R122, R134, R150, R166, R178). -/
  | pinReset
  /-- The run clock steps to a new second (R124). -/
  | runSecond
  /-- A thermocouple result frame with an agreeing check byte arrives (R5). -/
  | thermocoupleResult (channel : Byte) (status : TcResult) (value : BitVec 16)
  /-- A load-cell result frame with an agreeing check byte arrives (R6). -/
  | loadCellResult (channel : Byte) (status : LcResult) (count : BitVec 24)
  /-- The 20 ms reply limit of a converter's outstanding conversion runs out (R7). -/
  | replyLimitExpiry (link : Converter)
  /-- A reply the part cannot take arrives (R8). -/
  | unusableReply (link : Converter) (why : Unusable)
  /-- A pulse at the zero-cross input that is not a boundary (R48). -/
  | zeroCross
  /-- A pulse at the zero-cross input that is a frame boundary (R18, R39, R51). -/
  | frameBoundary
  /-- The 40 ms mains watch runs out (R50). -/
  | mainsLost
  /-- A loaded charge's out-deadline is reached while a close is held (R110). -/
  | loadedChargeDeadline
  /-- The standby wait runs out (R29). -/
  | standbyWaitEnd
  /-- The load-cell result on which a taring scale settles arrives (R62). -/
  | tareSettled (scale : Fin 2) (count : BitVec 24)
  /-- A tare's deadline is reached (R63). -/
  | tareTimeout (scale : Fin 2)
  /-- The load-cell result on which a capturing scale settles arrives (R68). -/
  | plySettled (scale : Fin 2) (count : BitVec 24)
  /-- A capture's deadline is reached (R71). -/
  | captureTimeout (scale : Fin 2)
  /-- A lot entry passes its aging period (R83). -/
  | lotAged (lot : BitVec 32)
  /-- A rack record reaches its out-deadline (R90). -/
  | chargeExpired (charge : BitVec 32)
  /-- The demould window's deadline is reached (R148). -/
  | demouldLate
  /-- Select ends after the command byte and before the last operand byte (R168). -/
  | transactionTruncated (port : Port)
  /-- A command byte that names no command (R169). -/
  | unknownCommand (port : Port) (byte : Byte)
  /-- The one-byte count transaction of the trace port's held fetch (R164). -/
  | heldFetchCount (count : Byte)
  /-- NO OPERATION (R169). -/
  | noOperation (port : Port)
  /-- READ ZONES (R12). -/
  | readZones (port : Port)
  /-- MEASURE SETUP (R10). -/
  | measureSetup (port : Port) (limit : BitVec 8)
  /-- ZONE SETUP (R15); the last two operands are signed. -/
  | zoneSetup (port : Port) (zone : BitVec 8) (power bias band gain idle trip : BitVec 16)
  /-- HEAT SETUP (R16). -/
  | heatSetup (port : Port) (band : BitVec 16) (delay : BitVec 8) (setback : BitVec 16)
  /-- ZONE MODE (R19). -/
  | zoneMode (port : Port) (zone mode : BitVec 8) (demand : BitVec 16) (frames : BitVec 8)
  /-- CLEAR ZONE FAULT (R22). -/
  | clearZoneFault (port : Port) (zone : BitVec 8)
  /-- STANDBY NOW (R30). -/
  | standbyNow (port : Port)
  /-- WAKE (R31). -/
  | wake (port : Port)
  /-- BUDGET SETUP (R37). -/
  | budgetSetup (port : Port) (base : BitVec 32) (hysteresis frameLength : BitVec 16)
  /-- SET CURTAIL (R38). -/
  | setCurtail (port : Port) (watts : BitVec 32)
  /-- SET GAIN (R55). -/
  | setGain (port : Port) (scale : BitVec 8) (gain : BitVec 16)
  /-- SCALE SETUP (R56). -/
  | scaleSetup (port : Port) (scale : BitVec 8) (band : BitVec 16) (count timeout : BitVec 8) (minPly : BitVec 16)
      (validity : BitVec 8)
  /-- TARE (R61). -/
  | tare (port : Port) (scale : BitVec 8)
  /-- WEIGH START (R65). -/
  | weighStart (port : Port) (scale group : BitVec 8)
  /-- ADD PLY (R67). -/
  | addPly (port : Port) (scale : BitVec 8)
  /-- CLOSE CHARGE (R73). -/
  | closeCharge (port : Port) (scale : BitVec 8)
  /-- DISCARD (R74). -/
  | discard (port : Port) (scale : BitVec 8)
  /-- SCALE STATUS (R76). -/
  | scaleStatus (port : Port) (scale : BitVec 8)
  /-- DECLARE LOT (R80). -/
  | declareLot (port : Port) (scale : BitVec 8) (lot : BitVec 32) (material minutes : BitVec 16)
  /-- LOT SETUP (R84). -/
  | lotSetup (port : Port) (period : BitVec 8)
  /-- READ LOTS (R86). -/
  | readLots (port : Port)
  /-- DISCARD CHARGE (R91). -/
  | discardCharge (port : Port) (charge : BitVec 32)
  /-- READ QUEUE (R96). -/
  | readQueue (port : Port)
  /-- TAKE CHARGE (R92). -/
  | takeCharge (port : Port) (cavity : BitVec 8)
  /-- RETURN CHARGE (R94). -/
  | returnCharge (port : Port) (cavity : BitVec 8)
  /-- WRITE RECIPE (R99). -/
  | writeRecipe (port : Port) (slot : BitVec 8) (body : RecipeBody)
  /-- READ RECIPE (R100). -/
  | readRecipe (port : Port) (slot : BitVec 8)
  /-- MOUNT MOULD (R101). -/
  | mountMould (port : Port) (slot : BitVec 8)
  /-- UNMOUNT (R102). -/
  | unmount (port : Port)
  /-- SET STATION (R105). -/
  | setStation (port : Port) (station : BitVec 16)
  /-- ARM SHOT (R106). -/
  | armShot (port : Port) (mask : BitVec 8)
  /-- LOADED (R107). -/
  | loaded (port : Port) (cavity : BitVec 8)
  /-- REMOVE CHARGE (R108). -/
  | removeCharge (port : Port) (cavity : BitVec 8)
  /-- CLOSE (R109). -/
  | close (port : Port)
  /-- WITHDRAW CLOSE (R111). -/
  | withdrawClose (port : Port)
  /-- CLOSED (R113). -/
  | closed (port : Port)
  /-- BUMP (R113). -/
  | bump (port : Port)
  /-- PRESSURE (R113, R114). -/
  | pressure (port : Port)
  /-- OPEN (R116). -/
  | openPress (port : Port)
  /-- OPENED (R117). -/
  | opened (port : Port)
  /-- ABORT SHOT (R118). -/
  | abortShot (port : Port) (shot : BitVec 32)
  /-- PRODUCTION RESET (R120). -/
  | productionReset (port : Port)
  /-- READ SHOTS (R121). -/
  | readShots (port : Port)
  /-- READ CURE (R133). -/
  | readCure (port : Port)
  /-- ZONE CLAIM (R136). -/
  | zoneClaim (port : Port)
  /-- ZONE RELEASE (R137). -/
  | zoneRelease (port : Port)
  /-- ZONE RECLAIM (R139). -/
  | zoneReclaim (port : Port)
  /-- ENGAGED (R141). -/
  | engaged (port : Port)
  /-- EJECT (R142). -/
  | eject (port : Port)
  /-- EJECTED (R144). -/
  | ejected (port : Port)
  /-- PART TAKEN (R145). -/
  | partTaken (port : Port) (cavity : BitVec 8)
  /-- TAKE FAIL (R146). -/
  | takeFail (port : Port) (cavity : BitVec 8)
  /-- CLEAR CAVITY (R147). -/
  | clearCavity (port : Port) (cavity disposition : BitVec 8)
  /-- READ DEMOULD (R149). -/
  | readDemould (port : Port)
  /-- HISTORY SETUP (R155). -/
  | historySetup (port : Port) (mark : BitVec 8)
  /-- SET TIME (R158). -/
  | setTime (port : Port) (plant : BitVec 32)
  /-- FETCH (R162). -/
  | fetch (port : Port) (start : BitVec 32) (count hold : BitVec 8)
  /-- COLLECT (R165). -/
  | collect (port : Port) (sequence : BitVec 32)
  /-- STATUS (R174). -/
  | status (port : Port)
  /-- READ NOTICES (R173). -/
  | readNotices (port : Port) (count : BitVec 8)
  /-- PORT SETUP (R175). -/
  | portSetup (port : Port) (turnaround : BitVec 8)
  /-- PORT RESET (R176). -/
  | portReset (port : Port)
  deriving DecidableEq, Repr

end Sys2Proof
end

