-- ==== Sys2Proof/WellFormed.lean ====
section
/-! DEFINITION. Which terms of `Instr` the outside world can send. `exec` is total and gives every term the effect the
rules give what it describes; these checks say which terms describe the step their row names. -/

namespace Sys2Proof

/-- Whether the term is one the row it belongs to describes: a result names a channel its converter has (1.1), an
unknown command's byte is above the last value of Table 11.3 (R181), and the deadline of a lot or of a charge names an
identity that can be issued or declared (0.6, R79). Every other operand takes every value of its width. -/
def Instr.wellFormed : Instr → Bool
  | .thermocoupleResult channel _ _ => channel.toNat < 12
  | .loadCellResult channel _ _ => channel.toNat < 2
  | .unknownCommand _ byte => 62 < byte.toNat
  | .lotAged lot => 0 < lot.toNat
  | .chargeExpired charge => 0 < charge.toNat
  | _ => true

end Sys2Proof
end

