-- ==== Sys2Proof/Decode.lean ====
section
/-! DEFINITION. From bytes to commands. The table's rows carry no bits of their own, so `decodeTableWord` reads none; what the
spec does lay out in bytes, a transaction (R167, R180) with the command bytes and operands of Table 11.3 (R181) and the
recipe body (R186), is read by `parseTransaction` and written by `Instr.spell`. -/

namespace Sys2Proof

/-- The value of a run of bytes, most significant first (R179). -/
def beValue (bytes : List Byte) : Nat :=
  bytes.foldl (fun acc b => acc * 256 + b.toNat) 0

/-- The `k` low bytes of a number, most significant first (R179). -/
def be (k n : Nat) : List Byte :=
  (List.range k).reverse.map fun i => BitVec.ofNat 8 (n / 256 ^ i)

/-- The `w`-bit number that stands at byte offset `off` (R179). -/
def field (w : Nat) (bytes : List Byte) (off : Nat) : BitVec w :=
  BitVec.ofNat w (beValue ((bytes.drop off).take (w / 8)))

/-- The bytes of a bit vector, most significant first (R179). -/
def beBits {w : Nat} (x : BitVec w) : List Byte :=
  be (w / 8) x.toNat

/-- The commands of Table 11.3 (R181), in the order of their command bytes. -/
inductive Command where
  | noOperation | readZones | measureSetup | zoneSetup | heatSetup | zoneMode | clearZoneFault | standbyNow
  | wake | budgetSetup | setCurtail | setGain | scaleSetup | tare | weighStart | addPly | closeCharge
  | discard | scaleStatus | declareLot | lotSetup | readLots | discardCharge | readQueue | takeCharge
  | returnCharge | writeRecipe | readRecipe | mountMould | unmount | setStation | armShot | loaded
  | removeCharge | close | withdrawClose | closed | bump | pressure | openPress | opened | abortShot
  | productionReset | readShots | readCure | zoneClaim | zoneRelease | zoneReclaim | engaged | eject
  | ejected | partTaken | takeFail | clearCavity | readDemould | historySetup | setTime | fetch | collect
  | status | readNotices | portSetup | portReset
  deriving DecidableEq, Repr

/-- A row of Table 11.3 together with the ports of the request table (10.3). -/
structure CommandRow where
  command : Command
  /-- The command byte. -/
  byte : Nat
  /-- How many operand bytes follow it. -/
  operandBytes : Nat
  /-- The ports on which it is permitted. -/
  ports : List Port
  deriving DecidableEq, Repr

/-- The row of a command. -/
def Command.row : Command → CommandRow
  | .noOperation => ⟨.noOperation, 0, 0, [.press, .charge, .handler, .trace]⟩
  | .readZones => ⟨.readZones, 1, 0, [.press]⟩
  | .measureSetup => ⟨.measureSetup, 2, 1, [.press]⟩
  | .zoneSetup => ⟨.zoneSetup, 3, 13, [.press]⟩
  | .heatSetup => ⟨.heatSetup, 4, 5, [.press]⟩
  | .zoneMode => ⟨.zoneMode, 5, 5, [.press]⟩
  | .clearZoneFault => ⟨.clearZoneFault, 6, 1, [.press]⟩
  | .standbyNow => ⟨.standbyNow, 7, 0, [.press]⟩
  | .wake => ⟨.wake, 8, 0, [.press]⟩
  | .budgetSetup => ⟨.budgetSetup, 9, 8, [.press]⟩
  | .setCurtail => ⟨.setCurtail, 10, 4, [.trace]⟩
  | .setGain => ⟨.setGain, 11, 3, [.charge]⟩
  | .scaleSetup => ⟨.scaleSetup, 12, 8, [.charge]⟩
  | .tare => ⟨.tare, 13, 1, [.charge]⟩
  | .weighStart => ⟨.weighStart, 14, 2, [.charge]⟩
  | .addPly => ⟨.addPly, 15, 1, [.charge]⟩
  | .closeCharge => ⟨.closeCharge, 16, 1, [.charge]⟩
  | .discard => ⟨.discard, 17, 1, [.charge]⟩
  | .scaleStatus => ⟨.scaleStatus, 18, 1, [.charge]⟩
  | .declareLot => ⟨.declareLot, 19, 9, [.charge]⟩
  | .lotSetup => ⟨.lotSetup, 20, 1, [.charge]⟩
  | .readLots => ⟨.readLots, 21, 0, [.charge, .trace]⟩
  | .discardCharge => ⟨.discardCharge, 22, 4, [.charge]⟩
  | .readQueue => ⟨.readQueue, 23, 0, [.charge, .handler]⟩
  | .takeCharge => ⟨.takeCharge, 24, 1, [.handler]⟩
  | .returnCharge => ⟨.returnCharge, 25, 1, [.handler]⟩
  | .writeRecipe => ⟨.writeRecipe, 26, 115, [.press]⟩
  | .readRecipe => ⟨.readRecipe, 27, 1, [.press]⟩
  | .mountMould => ⟨.mountMould, 28, 1, [.press]⟩
  | .unmount => ⟨.unmount, 29, 0, [.press]⟩
  | .setStation => ⟨.setStation, 30, 2, [.press]⟩
  | .armShot => ⟨.armShot, 31, 1, [.press]⟩
  | .loaded => ⟨.loaded, 32, 1, [.handler]⟩
  | .removeCharge => ⟨.removeCharge, 33, 1, [.handler]⟩
  | .close => ⟨.close, 34, 0, [.press]⟩
  | .withdrawClose => ⟨.withdrawClose, 35, 0, [.press]⟩
  | .closed => ⟨.closed, 36, 0, [.press]⟩
  | .bump => ⟨.bump, 37, 0, [.press]⟩
  | .pressure => ⟨.pressure, 38, 0, [.press]⟩
  | .openPress => ⟨.openPress, 39, 0, [.press]⟩
  | .opened => ⟨.opened, 40, 0, [.press]⟩
  | .abortShot => ⟨.abortShot, 41, 4, [.press]⟩
  | .productionReset => ⟨.productionReset, 42, 0, [.press]⟩
  | .readShots => ⟨.readShots, 43, 0, [.press, .handler]⟩
  | .readCure => ⟨.readCure, 44, 0, [.press, .trace]⟩
  | .zoneClaim => ⟨.zoneClaim, 45, 0, [.handler]⟩
  | .zoneRelease => ⟨.zoneRelease, 46, 0, [.handler]⟩
  | .zoneReclaim => ⟨.zoneReclaim, 47, 0, [.press]⟩
  | .engaged => ⟨.engaged, 48, 0, [.handler]⟩
  | .eject => ⟨.eject, 49, 0, [.press]⟩
  | .ejected => ⟨.ejected, 50, 0, [.press]⟩
  | .partTaken => ⟨.partTaken, 51, 1, [.handler]⟩
  | .takeFail => ⟨.takeFail, 52, 1, [.handler]⟩
  | .clearCavity => ⟨.clearCavity, 53, 2, [.press]⟩
  | .readDemould => ⟨.readDemould, 54, 0, [.press, .handler]⟩
  | .historySetup => ⟨.historySetup, 55, 1, [.trace]⟩
  | .setTime => ⟨.setTime, 56, 4, [.trace]⟩
  | .fetch => ⟨.fetch, 57, 6, [.trace]⟩
  | .collect => ⟨.collect, 58, 4, [.trace]⟩
  | .status => ⟨.status, 59, 0, [.press, .charge, .handler, .trace]⟩
  | .readNotices => ⟨.readNotices, 60, 1, [.press, .charge, .handler, .trace]⟩
  | .portSetup => ⟨.portSetup, 61, 1, [.press, .charge, .handler, .trace]⟩
  | .portReset => ⟨.portReset, 62, 0, [.press, .charge, .handler, .trace]⟩

/-- Every command, in the order of the command bytes 0 to 62. -/
def Command.all : List Command :=
  [.noOperation, .readZones, .measureSetup, .zoneSetup, .heatSetup, .zoneMode, .clearZoneFault, .standbyNow,
    .wake, .budgetSetup, .setCurtail, .setGain, .scaleSetup, .tare, .weighStart, .addPly, .closeCharge,
    .discard, .scaleStatus, .declareLot, .lotSetup, .readLots, .discardCharge, .readQueue, .takeCharge,
    .returnCharge, .writeRecipe, .readRecipe, .mountMould, .unmount, .setStation, .armShot, .loaded,
    .removeCharge, .close, .withdrawClose, .closed, .bump, .pressure, .openPress, .opened, .abortShot,
    .productionReset, .readShots, .readCure, .zoneClaim, .zoneRelease, .zoneReclaim, .engaged, .eject,
    .ejected, .partTaken, .takeFail, .clearCavity, .readDemould, .historySetup, .setTime, .fetch, .collect,
    .status, .readNotices, .portSetup, .portReset]

/-- The command a command byte names, if any (R169, R181). -/
def Command.ofByte (b : Byte) : Option Command :=
  Command.all[b.toNat]?

/-- Whether the command is permitted on the port (R169, 10.3). -/
def Command.permitted (c : Command) (p : Port) : Bool :=
  c.row.ports.contains p

/-- The recipe body read from its 114 bytes, which begin at offset `off` (R186). -/
def recipeBodyOf (bytes : List Byte) (off : Nat) : RecipeBody where
  mouldId := field 16 bytes off
  revision := field 8 bytes (off + 2)
  cavityCount := field 8 bytes (off + 3)
  groupOf := Table.ofFn fun k => field 8 bytes (off + 4 + k.val)
  maskOf := Table.ofFn fun k => field 16 bytes (off + 8 + 2 * k.val)
  groups := Table.ofFn fun g =>
    ⟨field 16 bytes (off + 16 + 6 * g.val), field 16 bytes (off + 18 + 6 * g.val), field 16 bytes (off + 20 + 6 * g.val)⟩
  setpoints := Table.ofFn fun z => field 16 bytes (off + 40 + 2 * z.val)
  cureTarget := field 32 bytes (off + 64)
  overCure := field 32 bytes (off + 68)
  rates := Table.ofFn fun i => ⟨field 16 bytes (off + 72 + 4 * i.val), field 16 bytes (off + 74 + 4 * i.val)⟩
  bumpCount := field 8 bytes (off + 104)
  demouldWindow := field 16 bytes (off + 105)
  outTime := field 16 bytes (off + 107)
  loadMargin := field 16 bytes (off + 109)
  takeLimit := field 8 bytes (off + 111)
  blindLimit := field 16 bytes (off + 112)

/-- The 114 bytes of a recipe body (R186). -/
def RecipeBody.bytes (r : RecipeBody) : List Byte :=
  beBits r.mouldId ++ beBits r.revision ++ beBits r.cavityCount
    ++ r.groupOf.toList.flatMap beBits ++ r.maskOf.toList.flatMap beBits
    ++ r.groups.toList.flatMap (fun g => beBits g.target ++ beBits g.lowTol ++ beBits g.highTol)
    ++ r.setpoints.toList.flatMap beBits ++ beBits r.cureTarget ++ beBits r.overCure
    ++ r.rates.toList.flatMap (fun b => beBits b.temp ++ beBits b.rate)
    ++ beBits r.bumpCount ++ beBits r.demouldWindow ++ beBits r.outTime ++ beBits r.loadMargin
    ++ beBits r.takeLimit ++ beBits r.blindLimit

/-- The request or report that a command and its operand bytes spell on a port (R181); bytes beyond the operands carry no
meaning (R167). -/
def Command.instr (p : Port) (ops : List Byte) : Command → Instr
  | .noOperation => .noOperation p
  | .readZones => .readZones p
  | .measureSetup => .measureSetup p (field 8 ops 0)
  | .zoneSetup => .zoneSetup p (field 8 ops 0) (field 16 ops 1) (field 16 ops 3) (field 16 ops 5) (field 16 ops 7) (field 16 ops 9) (field 16 ops 11)
  | .heatSetup => .heatSetup p (field 16 ops 0) (field 8 ops 2) (field 16 ops 3)
  | .zoneMode => .zoneMode p (field 8 ops 0) (field 8 ops 1) (field 16 ops 2) (field 8 ops 4)
  | .clearZoneFault => .clearZoneFault p (field 8 ops 0)
  | .standbyNow => .standbyNow p
  | .wake => .wake p
  | .budgetSetup => .budgetSetup p (field 32 ops 0) (field 16 ops 4) (field 16 ops 6)
  | .setCurtail => .setCurtail p (field 32 ops 0)
  | .setGain => .setGain p (field 8 ops 0) (field 16 ops 1)
  | .scaleSetup => .scaleSetup p (field 8 ops 0) (field 16 ops 1) (field 8 ops 3) (field 8 ops 4) (field 16 ops 5) (field 8 ops 7)
  | .tare => .tare p (field 8 ops 0)
  | .weighStart => .weighStart p (field 8 ops 0) (field 8 ops 1)
  | .addPly => .addPly p (field 8 ops 0)
  | .closeCharge => .closeCharge p (field 8 ops 0)
  | .discard => .discard p (field 8 ops 0)
  | .scaleStatus => .scaleStatus p (field 8 ops 0)
  | .declareLot => .declareLot p (field 8 ops 0) (field 32 ops 1) (field 16 ops 5) (field 16 ops 7)
  | .lotSetup => .lotSetup p (field 8 ops 0)
  | .readLots => .readLots p
  | .discardCharge => .discardCharge p (field 32 ops 0)
  | .readQueue => .readQueue p
  | .takeCharge => .takeCharge p (field 8 ops 0)
  | .returnCharge => .returnCharge p (field 8 ops 0)
  | .writeRecipe => .writeRecipe p (field 8 ops 0) (recipeBodyOf ops 1)
  | .readRecipe => .readRecipe p (field 8 ops 0)
  | .mountMould => .mountMould p (field 8 ops 0)
  | .unmount => .unmount p
  | .setStation => .setStation p (field 16 ops 0)
  | .armShot => .armShot p (field 8 ops 0)
  | .loaded => .loaded p (field 8 ops 0)
  | .removeCharge => .removeCharge p (field 8 ops 0)
  | .close => .close p
  | .withdrawClose => .withdrawClose p
  | .closed => .closed p
  | .bump => .bump p
  | .pressure => .pressure p
  | .openPress => .openPress p
  | .opened => .opened p
  | .abortShot => .abortShot p (field 32 ops 0)
  | .productionReset => .productionReset p
  | .readShots => .readShots p
  | .readCure => .readCure p
  | .zoneClaim => .zoneClaim p
  | .zoneRelease => .zoneRelease p
  | .zoneReclaim => .zoneReclaim p
  | .engaged => .engaged p
  | .eject => .eject p
  | .ejected => .ejected p
  | .partTaken => .partTaken p (field 8 ops 0)
  | .takeFail => .takeFail p (field 8 ops 0)
  | .clearCavity => .clearCavity p (field 8 ops 0) (field 8 ops 1)
  | .readDemould => .readDemould p
  | .historySetup => .historySetup p (field 8 ops 0)
  | .setTime => .setTime p (field 32 ops 0)
  | .fetch => .fetch p (field 32 ops 0) (field 8 ops 4) (field 8 ops 5)
  | .collect => .collect p (field 32 ops 0)
  | .status => .status p
  | .readNotices => .readNotices p (field 8 ops 0)
  | .portSetup => .portSetup p (field 8 ops 0)
  | .portReset => .portReset p

/-- What the bytes received in one select period ask for (R167 to R169), `held` saying whether the trace port is in held
fetch (R164). No complete byte is no transaction. In held fetch the first byte is a count. Otherwise it is a command byte:
one that names no command, one whose operands were cut short, or a whole request. -/
def parseTransaction (held : Bool) (p : Port) (bytes : List Byte) : Option Instr :=
  match bytes with
  | [] => none
  | b :: rest =>
    if held && p == .trace then some (.heldFetchCount b)
    else
      match Command.ofByte b with
      | none => some (.unknownCommand p b)
      | some c => if rest.length < c.row.operandBytes then some (.transactionTruncated p) else some (c.instr p rest)

/-- The bytes of a request: the command byte, then the operands (R180). -/
def Command.spelled (c : Command) (operands : List Byte) : List Byte :=
  BitVec.ofNat 8 c.row.byte :: operands

/-- The port and the bytes of a request or report (R180, R181); none for what is no whole transaction of its own. -/
def Instr.spell : Instr → Option (Port × List Byte)
  | .pinReset => none
  | .runSecond => none
  | .thermocoupleResult _ _ _ => none
  | .loadCellResult _ _ _ => none
  | .replyLimitExpiry _ => none
  | .unusableReply _ _ => none
  | .zeroCross => none
  | .frameBoundary => none
  | .mainsLost => none
  | .loadedChargeDeadline => none
  | .standbyWaitEnd => none
  | .tareSettled _ _ => none
  | .tareTimeout _ => none
  | .plySettled _ _ => none
  | .captureTimeout _ => none
  | .lotAged _ => none
  | .chargeExpired _ => none
  | .demouldLate => none
  | .transactionTruncated _ => none
  | .unknownCommand p b => some (p, [b])
  | .heldFetchCount _ => none
  | .noOperation p => some (p, Command.spelled .noOperation [])
  | .readZones p => some (p, Command.spelled .readZones [])
  | .measureSetup p a => some (p, Command.spelled .measureSetup (beBits a))
  | .zoneSetup p a b c d e f g => some (p, Command.spelled .zoneSetup (beBits a ++ beBits b ++ beBits c ++ beBits d ++ beBits e ++ beBits f ++ beBits g))
  | .heatSetup p a b c => some (p, Command.spelled .heatSetup (beBits a ++ beBits b ++ beBits c))
  | .zoneMode p a b c d => some (p, Command.spelled .zoneMode (beBits a ++ beBits b ++ beBits c ++ beBits d))
  | .clearZoneFault p a => some (p, Command.spelled .clearZoneFault (beBits a))
  | .standbyNow p => some (p, Command.spelled .standbyNow [])
  | .wake p => some (p, Command.spelled .wake [])
  | .budgetSetup p a b c => some (p, Command.spelled .budgetSetup (beBits a ++ beBits b ++ beBits c))
  | .setCurtail p a => some (p, Command.spelled .setCurtail (beBits a))
  | .setGain p a b => some (p, Command.spelled .setGain (beBits a ++ beBits b))
  | .scaleSetup p a b c d e f => some (p, Command.spelled .scaleSetup (beBits a ++ beBits b ++ beBits c ++ beBits d ++ beBits e ++ beBits f))
  | .tare p a => some (p, Command.spelled .tare (beBits a))
  | .weighStart p a b => some (p, Command.spelled .weighStart (beBits a ++ beBits b))
  | .addPly p a => some (p, Command.spelled .addPly (beBits a))
  | .closeCharge p a => some (p, Command.spelled .closeCharge (beBits a))
  | .discard p a => some (p, Command.spelled .discard (beBits a))
  | .scaleStatus p a => some (p, Command.spelled .scaleStatus (beBits a))
  | .declareLot p a b c d => some (p, Command.spelled .declareLot (beBits a ++ beBits b ++ beBits c ++ beBits d))
  | .lotSetup p a => some (p, Command.spelled .lotSetup (beBits a))
  | .readLots p => some (p, Command.spelled .readLots [])
  | .discardCharge p a => some (p, Command.spelled .discardCharge (beBits a))
  | .readQueue p => some (p, Command.spelled .readQueue [])
  | .takeCharge p a => some (p, Command.spelled .takeCharge (beBits a))
  | .returnCharge p a => some (p, Command.spelled .returnCharge (beBits a))
  | .writeRecipe p a body => some (p, Command.spelled .writeRecipe (beBits a ++ body.bytes))
  | .readRecipe p a => some (p, Command.spelled .readRecipe (beBits a))
  | .mountMould p a => some (p, Command.spelled .mountMould (beBits a))
  | .unmount p => some (p, Command.spelled .unmount [])
  | .setStation p a => some (p, Command.spelled .setStation (beBits a))
  | .armShot p a => some (p, Command.spelled .armShot (beBits a))
  | .loaded p a => some (p, Command.spelled .loaded (beBits a))
  | .removeCharge p a => some (p, Command.spelled .removeCharge (beBits a))
  | .close p => some (p, Command.spelled .close [])
  | .withdrawClose p => some (p, Command.spelled .withdrawClose [])
  | .closed p => some (p, Command.spelled .closed [])
  | .bump p => some (p, Command.spelled .bump [])
  | .pressure p => some (p, Command.spelled .pressure [])
  | .openPress p => some (p, Command.spelled .openPress [])
  | .opened p => some (p, Command.spelled .opened [])
  | .abortShot p a => some (p, Command.spelled .abortShot (beBits a))
  | .productionReset p => some (p, Command.spelled .productionReset [])
  | .readShots p => some (p, Command.spelled .readShots [])
  | .readCure p => some (p, Command.spelled .readCure [])
  | .zoneClaim p => some (p, Command.spelled .zoneClaim [])
  | .zoneRelease p => some (p, Command.spelled .zoneRelease [])
  | .zoneReclaim p => some (p, Command.spelled .zoneReclaim [])
  | .engaged p => some (p, Command.spelled .engaged [])
  | .eject p => some (p, Command.spelled .eject [])
  | .ejected p => some (p, Command.spelled .ejected [])
  | .partTaken p a => some (p, Command.spelled .partTaken (beBits a))
  | .takeFail p a => some (p, Command.spelled .takeFail (beBits a))
  | .clearCavity p a b => some (p, Command.spelled .clearCavity (beBits a ++ beBits b))
  | .readDemould p => some (p, Command.spelled .readDemould [])
  | .historySetup p a => some (p, Command.spelled .historySetup (beBits a))
  | .setTime p a => some (p, Command.spelled .setTime (beBits a))
  | .fetch p a b c => some (p, Command.spelled .fetch (beBits a ++ beBits b ++ beBits c))
  | .collect p a => some (p, Command.spelled .collect (beBits a))
  | .status p => some (p, Command.spelled .status [])
  | .readNotices p a => some (p, Command.spelled .readNotices (beBits a))
  | .portSetup p a => some (p, Command.spelled .portSetup (beBits a))
  | .portReset p => some (p, Command.spelled .portReset [])

/-- The command that a word of spec/opcode_table.json spells. No row of that table gives bits, so no word spells one. -/
def decodeTableWord (_nbits _w : Nat) : Option Instr :=
  none

end Sys2Proof
end

