-- ==== Sys2Proof/Config.lean ====
section
/-! DEFINITION. The figures the spec fixes for every part, and the free values: constants without a body, for what the
spec leaves unstated. Nothing can be proved of a free value but that it is there. -/

namespace Sys2Proof.Config

/-- The greatest value of a 32-bit number: the run clock, a run-second, an issued number (0.6). -/
def maxWord : Nat := 4294967295

/-- The number of notices one port's notice set holds (R171). -/
def noticeRoom : Nat := 32

/-- The number of entries of the lot table (R79). -/
def lotRoom : Nat := 32

/-- The number of rack positions (R88). -/
def rackRoom : Nat := 16

/-- A 32-bit figure whose exact value the spec's rules put above 4,294,967,295, the end of its format: a FREE VALUE
(log entry 3). The first argument is the state's counter of free values, the second the exact sum. -/
opaque freeWord : Nat → Nat → BitVec 32

/-- The seconds from `past` to `now` when `past` is the later of the two, which only a run clock beyond the end of its
format can bring about: a FREE VALUE of the two run-seconds (log entry 4). -/
opaque freeElapsed : Nat → Nat → BitVec 32

end Sys2Proof.Config
end

