-- ==== Sys2Proof/Machine/State.lean ====
section
/-! DEFINITION. Everything the spec gives the part, block by block (0.4), as plain data; the queue of waiting commands; and
the state right after pin reset (R13, R34, R53, R78, R97, R122, R134, R150, R166, R178). -/

namespace Sys2Proof.Machine

/-! ### Measurement sequencer (MSQ) -/

/-- The recorded status of a thermocouple channel (R1). -/
inductive TcStatus where
  | ok | open_ | range | noReply
  deriving DecidableEq, Repr

/-- The judged status of a thermocouple channel, formed at a reading and held nowhere but in a fault cause (R9). -/
inductive Judged where
  | ok | open_ | range | noReply | stale
  deriving DecidableEq, Repr

/-- The record of a thermocouple channel (R1). -/
structure TcChannel where
  /-- The temperature of the latest OK result, 0.1 °C, signed 16-bit. -/
  value : Int
  recorded : TcStatus
  /-- The run-second of the latest completed conversion. -/
  arrival : Nat
  /-- The run-second of the latest OK result, or absent. -/
  lastOk : Option Nat
  everOk : Bool
  deriving DecidableEq, Repr

/-- The recorded status of a load-cell channel (R2). -/
inductive LcStatus where
  | ok | overrange | noReply
  deriving DecidableEq, Repr

/-- The record of a load-cell channel (R2). -/
structure LcChannel where
  /-- The count of the latest OK result, signed 24-bit. -/
  raw : Int
  recorded : LcStatus
  arrival : Nat
  lastOk : Option Nat
  deriving DecidableEq, Repr

/-- An outstanding conversion: the channel it was started for and the run-second of its start (1.3). -/
structure Conversion where
  channel : Nat
  started : Nat
  deriving DecidableEq, Repr

/-- What MSQ holds. -/
structure Msq where
  tc : Table TcChannel 12
  lc : Table LcChannel 2
  /-- The thermocouple converter's outstanding conversion, or none (1.3). -/
  tcConv : Option Conversion
  lcConv : Option Conversion
  /-- The stale limit in seconds, 1 to 10 (R10). -/
  staleLimit : Nat
  deriving DecidableEq, Repr

/-! ### Zone controllers (ZCT) -/

/-- A zone's setup record (R15). -/
structure ZoneSetup where
  power : Nat
  bias : Nat
  band : Nat
  gain : Nat
  idle : Nat
  trip : Nat
  deriving DecidableEq, Repr

/-- A zone's mode (2.6). -/
inductive ZoneMode where
  | off | auto | manual | fault
  deriving DecidableEq, Repr

/-- The frames a MANUAL zone still has to run (R14). -/
inductive Frames where
  | continuous
  | left (n : Nat)
  deriving DecidableEq, Repr

/-- A pending mode change (R14, R19). -/
inductive ModeChange where
  | off
  | auto
  | manual (demand : Nat) (frames : Frames)
  deriving DecidableEq, Repr

/-- The mode a zone had when it entered FAULT (R14, R21). -/
inductive PreFault where
  | auto
  | manual (frames : Frames)
  deriving DecidableEq, Repr

/-- Why a zone is in FAULT (R14). -/
inductive FaultCause where
  | invalid (seen : Judged)
  | overTrip (temp : Int)
  deriving DecidableEq, Repr

/-- What a zone holds only in FAULT (R14). -/
structure FaultInfo where
  preFault : PreFault
  cause : FaultCause
  /-- The run-second of entry. -/
  since : Nat
  clearAccepted : Bool
  deriving DecidableEq, Repr

/-- A zone's record (R14). -/
structure Zone where
  active : ZoneSetup
  pendingSetup : Option ZoneSetup
  mode : ZoneMode
  pendingMode : Option ModeChange
  manualDemand : Nat
  frames : Option Frames
  fault : Option FaultInfo
  pendingSetpoint : Nat
  setpoint : Nat
  integrator : Int
  invalidCount : Nat
  demand : Nat
  saturated : Bool
  ready : Bool
  deriving DecidableEq, Repr

/-- The station heat mode (2.9). -/
inductive HeatMode where
  | production | standby
  deriving DecidableEq, Repr

/-- What ZCT holds. -/
structure Zct where
  zones : Table Zone 12
  readyBand : Nat
  /-- Minutes; 0 means the wait never ends (R16). -/
  standbyDelay : Nat
  setback : Nat
  heatMode : HeatMode
  /-- The empty-since second, or absent (R29). -/
  emptySince : Option Nat
  /-- The MODEL's own: the standby delay as the last step of the run clock found it (log entry 8). -/
  stepDelay : Nat
  deriving DecidableEq, Repr

/-! ### Heat budget and burst output (HBO) -/

/-- The throttle state (R35). -/
inductive Throttle where
  | normal | throttled
  deriving DecidableEq, Repr

/-- The mains state (R35). -/
inductive Mains where
  | present | lost
  deriving DecidableEq, Repr

/-- A zone's share of the frame now running (R36), and its heater output (0.3, R48). -/
structure Share where
  /-- The rank in the allocation, 0 to 2. -/
  rank : Nat
  request : Nat
  grant : Nat
  cut : Bool
  onCount : Nat
  offset : Nat
  /-- The heater output line of the zone. -/
  output : Bool
  deriving DecidableEq, Repr

/-- What HBO holds (R35, R36). -/
structure Hbo where
  baseBudget : Nat
  curtailment : Nat
  hysteresis : Nat
  /-- B_eff as taken at the last boundary. -/
  budget : Nat
  totalRequest : Nat
  throttle : Throttle
  frameLength : Nat
  requestedLength : Nat
  /-- The frame position, or none. -/
  position : Option Nat
  mains : Mains
  shares : Table Share 12
  deriving DecidableEq, Repr

/-! ### Scale units (SCU0, SCU1) -/

/-- A scale's state (4.1). -/
inductive ScaleState where
  | idle | taring | opened | capturing
  deriving DecidableEq, Repr

/-- The condition of a sample (R57). -/
inductive Condition where
  | ok | under | overload | noReply
  deriving DecidableEq, Repr

/-- An entry of the settle window (R59): the sample's count and weight, where it has them, and whether it is usable. -/
structure Sample where
  raw : Option Int
  weight : Option Int
  usable : Bool
  deriving DecidableEq, Repr

/-- The live reading (R54, R57). -/
structure Live where
  raw : Int
  weight : Nat
  condition : Condition
  deriving DecidableEq, Repr

/-- A ply as records carry it: weight and lot ID (R179). -/
structure Ply where
  weight : Nat
  lot : Nat
  deriving DecidableEq, Repr

/-- A ply as the session holds it, with its capture time (R66). -/
structure SessionPly where
  ply : Ply
  time : Nat
  deriving DecidableEq, Repr

/-- The class of a charge (R70). -/
inductive ChargeClass where
  | low | accept | high
  deriving DecidableEq, Repr

/-- The session record (R66). -/
structure Session where
  mouldId : Nat
  revision : Nat
  group : Nat
  target : Nat
  lowTol : Nat
  highTol : Nat
  start : Nat
  chargeId : Option Nat
  plies : List SessionPly
  total : Nat
  cls : Option ChargeClass
  armedLot : Option Nat
  deriving DecidableEq, Repr

/-- A scale unit's record (R54). -/
structure Scale where
  state : ScaleState
  gain : Nat
  band : Nat
  count : Nat
  timeout : Nat
  minPly : Nat
  validity : Nat
  zero : Int
  tareTime : Option Nat
  currentLot : Option Nat
  window : List Sample
  steadyRun : Nat
  reference : Option Int
  deadline : Option Nat
  live : Live
  session : Option Session
  deriving DecidableEq, Repr

/-! ### Lot table and charge rack (LTR) -/

/-- An entry of the lot table (R79). -/
structure Lot where
  id : Nat
  material : Nat
  deadline : Nat
  lastScale : Nat
  lastSeen : Nat
  refs : Nat
  deriving DecidableEq, Repr

/-- The facts of a closed charge, wherever it is held (R87, R104). -/
structure Charge where
  id : Nat
  mouldId : Nat
  revision : Nat
  group : Nat
  plies : List Ply
  total : Nat
  start : Nat
  lastPly : Nat
  close : Nat
  outDeadline : Nat
  deriving DecidableEq, Repr

/-- The state of a rack record, with what it holds only while STAGED (R87). -/
inductive RackState where
  | queued
  | expired
  | staged (cavity sequence : Nat) (expired : Bool)
  deriving DecidableEq, Repr

/-- A rack record (R87). -/
structure RackRecord where
  charge : Charge
  position : Nat
  state : RackState
  deriving DecidableEq, Repr

/-- What LTR holds. -/
structure Ltr where
  /-- The lot table, in ascending order of lot ID (R79, R86). -/
  lots : List Lot
  /-- Minutes (R84). -/
  agingPeriod : Nat
  /-- The MODEL's own: the aging period as the last step of the run clock found it (log entry 8). -/
  stepAging : Nat
  /-- The rack in queue order, oldest first (5.3). -/
  rack : List RackRecord
  deriving DecidableEq, Repr

/-! ### Shot controller (SHC) and cure accountant (CUA) -/

/-- A cavity of a recipe: its charge group and zone mask (R98). -/
structure RecipeCavity where
  group : Nat
  mask : BitVec 12
  deriving DecidableEq, Repr

/-- A charge group's weights (R98). -/
structure GroupSpec where
  target : Nat
  lowTol : Nat
  highTol : Nat
  deriving DecidableEq, Repr

/-- A breakpoint of the rate table (R98). -/
structure Breakpoint where
  temp : Int
  rate : Nat
  deriving DecidableEq, Repr

/-- A recipe (R98). -/
structure Recipe where
  mouldId : Nat
  revision : Nat
  cavityCount : Nat
  cavities : Table RecipeCavity 4
  groups : Table GroupSpec 4
  setpoints : Table Nat 12
  cureTarget : Nat
  overCure : Nat
  rates : Table Breakpoint 8
  bumpCount : Nat
  demouldWindow : Nat
  outTime : Nat
  loadMargin : Nat
  takeLimit : Nat
  blindLimit : Nat
  deriving DecidableEq, Repr

/-- The seven phases of a shot (6.1). -/
inductive Phase where
  | assembling | closing | bumping | curing | cured | opened | aborted
  deriving DecidableEq, Repr

/-- The state of a cavity record (R104). -/
inductive CavityState where
  | empty | staged | loaded | curing | taken | stuck | cleared
  deriving DecidableEq, Repr

/-- The disposition CLEAR CAVITY gives (R147). -/
inductive ClearDisposition where
  | scrap | suspect
  deriving DecidableEq, Repr

/-- The flags of a cavity record (R104). -/
structure CavityFlags where
  bumpsShort : Bool
  outtimeExceeded : Bool
  openedEarly : Bool
  demouldLate : Bool
  forcedRelease : Bool
  stuckCleared : Bool
  deriving DecidableEq, Repr

/-- The cure fields of a cavity (R123), with the effective temperature and rate of the last counted second (R133). -/
structure Cure where
  index : Nat
  seconds : Nat
  minT : Option Int
  maxT : Option Int
  blind : Nat
  throttled : Nat
  accounting : Bool
  last : Option (Int × Nat)
  deriving DecidableEq, Repr

/-- A cavity record (R104, R140). -/
structure Cavity where
  state : CavityState
  chargeId : Option Nat
  sequence : Option Nat
  charge : Option Charge
  loadTime : Option Nat
  station : Option Nat
  part : Option Nat
  cure : Option Cure
  attempts : Option Nat
  failMark : Option Nat
  takeTime : Option Nat
  latency : Option Nat
  clear : Option ClearDisposition
  flags : CavityFlags
  deriving DecidableEq, Repr

/-- The phase times of a shot (R103). -/
structure PhaseTimes where
  armed : Option Nat
  closeGrant : Option Nat
  closing : Option Nat
  cureStart : Option Nat
  cured : Option Nat
  opening : Option Nat
  deriving DecidableEq, Repr

/-- A shot (R103). The enabled mask is the set of cavities that have a record. -/
structure Shot where
  number : Nat
  slot : Nat
  mouldId : Nat
  revision : Nat
  phase : Phase
  bumps : Nat
  times : PhaseTimes
  cavities : Table (Option Cavity) 4
  deriving DecidableEq, Repr

/-- The press port's held close (R109). -/
structure HeldClose where
  shot : Nat
  since : Nat
  deriving DecidableEq, Repr

/-- What SHC holds. The two entries of the shot table are named by what they hold (log entry 5): the ASSEMBLING shot and
the press-side shot (R103). -/
structure Shc where
  recipes : Table (Option Recipe) 8
  /-- The mounted slot. -/
  mounted : Option (Fin 8)
  assembling : Option Shot
  press : Option Shot
  shotCounter : Nat
  chargeCounter : Nat
  partCounter : Nat
  station : Nat
  heldClose : Option HeldClose
  /-- The held open, with its shot number (R116). -/
  heldOpen : Option Nat
  deriving DecidableEq, Repr

/-! ### Demould interlock (DMI) -/

/-- The holder of the mould-space lock (R135). -/
inductive Holder where
  | free | press | handler
  deriving DecidableEq, Repr

/-- The demould state, present while the press-side shot is in OPEN (R140). -/
structure Demould where
  engaged : Bool
  grant : Bool
  heldEject : Bool
  count : Nat
  engageMark : Nat
  deadline : Nat
  lateGiven : Bool
  deriving DecidableEq, Repr

/-- What DMI holds (R135, R140). -/
structure Dmi where
  holder : Holder
  /-- The handler's pending claim, with its run-second. -/
  claim : Option Nat
  demould : Option Demould
  deriving DecidableEq, Repr

/-! ### History ring (HRG) -/

/-- Why a charge was scrapped (R160). -/
inductive ScrapCause where
  | sessionDiscard | overweight | rackDiscard | expiredDiscard | removedFromCavity | shotAborted
  deriving DecidableEq, Repr

/-- The disposition of a part (R161). -/
inductive Disposition where
  | good | suspect | scrap
  deriving DecidableEq, Repr

/-- A PART record; its times are timestamps (R158, R159). -/
structure PartRecord where
  shot : Nat
  mouldId : Nat
  revision : Nat
  cavity : Nat
  station : Nat
  part : Nat
  chargeId : Nat
  total : Nat
  plies : List Ply
  close : Nat
  load : Nat
  cureStart : Nat
  sealTime : Nat
  take : Option Nat
  cureSeconds : Nat
  finalIndex : Nat
  minT : Option Int
  maxT : Option Int
  blind : Nat
  throttled : Nat
  latency : Option Nat
  attempts : Nat
  clear : Option ClearDisposition
  flags : CavityFlags
  overcured : Bool
  cureUnverified : Bool
  timeUnset : Bool
  disposition : Disposition
  deriving DecidableEq, Repr

/-- A SCRAP record; its times are timestamps (R158, R160). -/
structure ScrapRecord where
  cause : ScrapCause
  chargeId : Nat
  mouldId : Nat
  revision : Nat
  group : Nat
  total : Nat
  plies : List Ply
  start : Nat
  lastPly : Nat
  close : Option Nat
  load : Option Nat
  sealTime : Nat
  shotCavity : Option (Nat × Nat)
  timeUnset : Bool
  deriving DecidableEq, Repr

/-- A complete record (9.6). -/
inductive Record where
  | part (r : PartRecord)
  | scrap (r : ScrapRecord)
  deriving DecidableEq, Repr

/-- A history slot (9.1, R151). -/
inductive Slot where
  | free
  | reserved (sequence : Nat)
  | sealed (sequence : Nat) (record : Record)
  | collected (sequence : Nat) (record : Record)
  | void (sequence : Nat)
  deriving DecidableEq, Repr

/-- What HRG holds (R151). -/
structure Hrg where
  slots : Table Slot 256
  writePos : Fin 256
  nextSeq : Nat
  lowMark : Nat
  /-- Whether the available count was below the mark at the comparison before (R154). -/
  below : Bool
  wallOffset : Nat
  wallSet : Bool
  deriving DecidableEq, Repr

/-! ### Station ports -/

/-- The status byte's meanings (R170). -/
inductive Status where
  | ok | clamped | accepted | held | gone | none | unknownCommand | notPermitted | truncated
  | badArgument | badState | busy | noMould | uncalibrated | tareStale | noLot | lotExpired
  | lotConflict | lotTableFull | rackFull | noCharge | chargeExpired | historyFull
  | zoneNotActive | zoneFault
  deriving DecidableEq, Repr

/-- The outcomes of a held close (R177). -/
inductive CloseOutcome where
  | granted
  /-- With the lowest cavity not LOADED, where that is the cause (R109, case 1). -/
  | badState (cavity : Option Nat)
  | chargeExpired (cavity : Nat)
  | zoneNotActive (zone : Nat)
  | zoneFault (zone : Nat)
  | withdrawn
  | portReset
  | productionReset
  | aborted
  deriving DecidableEq, Repr

/-- The outcomes of a held open (R177). -/
inductive OpenOutcome where
  | granted | opened | portReset
  deriving DecidableEq, Repr

/-- The outcomes of a held eject (R177). -/
inductive EjectOutcome where
  | granted | reclaimed | sealed | portReset
  deriving DecidableEq, Repr

/-- The outcomes of a pending claim (R177). -/
inductive ClaimOutcome where
  | granted | withdrawn | portReset | productionReset
  deriving DecidableEq, Repr

/-- The kind of a SETTLED or SETTLE_TIMEOUT notice (Table 11.1). -/
inductive SettleKind where
  | tare | ply
  deriving DecidableEq, Repr

/-- A notice's kind and the fields its setting rule says it carries (R171). -/
inductive NoticeBody where
  /-- R110 -/
  | closeGranted (shot : Nat)
  /-- R111 -/
  | closeEnded (shot : Nat) (reason : CloseOutcome)
  /-- R115 -/
  | openGranted (shot : Nat)
  /-- R131: the shot, the run-second, and each enabled cavity with its cure index -/
  | cured (shot second : Nat) (indices : List (Nat × Nat))
  /-- R141 -/
  | ejectGranted (shot : Nat)
  /-- R146 -/
  | stuck (shot cavity attempts : Nat)
  /-- R148: the cavities flagged -/
  | demouldLate (shot : Nat) (cavities : List Nat)
  /-- R21 -/
  | zoneFault (zone : Nat)
  /-- R30 to R32 -/
  | standby (mode : HeatMode)
  /-- R46 -/
  | throttle (state : Throttle) (budget request : Nat)
  /-- R50, R51 -/
  | mains (state : Mains)
  /-- R154 -/
  | historyLow (available newest oldest : Nat)
  /-- R62 -/
  | settledTare (scale : Nat) (zero : Int)
  /-- R68 -/
  | settledPly (scale chargeId index : Nat) (ply : Ply) (total : Nat) (cls : ChargeClass)
  /-- R63, R71 -/
  | settleTimeout (scale : Nat) (kind : SettleKind)
  /-- R68 -/
  | plyTooLight (scale : Nat) (difference : Int)
  /-- R89, R90: a cavity is named where the record was STAGED -/
  | chargeExpired (chargeId position : Nat) (cavity : Option Nat)
  /-- R88 -/
  | rackHigh (count : Nat)
  /-- R82 -/
  | lotMoved (lot left taken : Nat)
  /-- R138 -/
  | claimGranted (second : Nat)
  /-- R144 -/
  | ejected (shot count : Nat)
  /-- R139 -/
  | lockReclaimed (second flagged : Nat)
  /-- R117, R118 -/
  | shotAborted (shot : Nat)
  /-- R117 -/
  | opened (shot : Nat) (phase : Phase)
  /-- R119: the RECORDS_READY of a shot's seal -/
  | shotRecords (shot : Nat) (sequences : List Nat)
  /-- R157: the RECORDS_READY of a scrap -/
  | scrapRecords (sequences : List Nat)
  deriving DecidableEq, Repr

/-- A notice of a notice set (R171). -/
structure Notice where
  body : NoticeBody
  second : Nat
  deriving DecidableEq, Repr

/-- What a port reads back for a transaction taken: the turnaround it is framed with, the status byte and the bytes of the
reply fields, all formed at the moment of taking (R167). -/
structure Reply where
  turnaround : Nat
  status : Status
  fields : List Byte
  deriving DecidableEq, Repr

/-- What each port holds (10.1, R178), and the reply of its last transaction taken. -/
structure PortState where
  turnaround : Nat
  notices : List Notice
  lost : Bool
  lastStatus : Option Status
  /-- The reply formed by the port's last transaction, present until the next one (R167). -/
  reply : Option Reply
  deriving DecidableEq, Repr

/-- The four ports, the trace port's held fetch (R164) and the last held outcomes (R177). -/
structure Ports where
  press : PortState
  charge : PortState
  handler : PortState
  trace : PortState
  /-- In held fetch, the next sequence (R164). -/
  heldFetch : Option Nat
  closeOutcome : Option CloseOutcome
  openOutcome : Option OpenOutcome
  ejectOutcome : Option EjectOutcome
  claimOutcome : Option ClaimOutcome
  deriving DecidableEq, Repr

/-! ### The part -/

/-- The state of the part, block by block (0.4), with the queue of waiting commands. -/
structure State where
  /-- The run clock (0.6), 0 to 4,294,967,295. -/
  clock : Nat
  msq : Msq
  zct : Zct
  hbo : Hbo
  scales : Table Scale 2
  ltr : Ltr
  shc : Shc
  dmi : Dmi
  hrg : Hrg
  ports : Ports
  /-- The MODEL's own: how many free values have been used (log entry 3). -/
  freeCount : Nat
  /-- The commands that are waiting, first in, first out. -/
  pending : List Instr
  deriving DecidableEq, Repr

/-- The reasons a step could stop with a fault. There is none: the handbook gives every request, report and event an
effect or an answer in every state (R170), so no meaning raises a fault. -/
inductive Fault where
  deriving DecidableEq, Repr

/-- The reasons a step could be refused. -/
inductive Refusal where
  /-- Raised by an arm of `exec` whose command has no meaning yet; no arm is left so. Safe: nothing is claimed. -/
  | notModelled (mnemonic : String)
  deriving DecidableEq, Repr

/-! ### After pin reset -/

/-- A thermocouple channel after pin reset (R13). -/
def TcChannel.reset : TcChannel :=
  { value := 0, recorded := .noReply, arrival := 0, lastOk := none, everOk := false }

/-- A load-cell channel after pin reset (R13). -/
def LcChannel.reset : LcChannel :=
  { raw := 0, recorded := .noReply, arrival := 0, lastOk := none }

/-- MSQ after pin reset (R13): both converters convert channel 0. -/
def Msq.reset : Msq :=
  { tc := Table.replicate 12 TcChannel.reset
    lc := Table.replicate 2 LcChannel.reset
    tcConv := some ⟨0, 0⟩
    lcConv := some ⟨0, 0⟩
    staleLimit := 2 }

/-- A zone after pin reset (R15, R34). The manual demand is 0: DESIGN CHOICE, log entry 2. -/
def Zone.reset : Zone :=
  { active := { power := 1000, bias := 0, band := 100, gain := 0, idle := 0, trip := 2500 }
    pendingSetup := none, mode := .off, pendingMode := none, manualDemand := 0, frames := none, fault := none
    pendingSetpoint := 0, setpoint := 0, integrator := 0, invalidCount := 0, demand := 0
    saturated := false, ready := false }

/-- ZCT after pin reset (R34). -/
def Zct.reset : Zct :=
  { zones := Table.replicate 12 Zone.reset
    readyBand := 50, standbyDelay := 15, setback := 300
    heatMode := .production, emptySince := some 0, stepDelay := 15 }

/-- Zone `z`'s share after pin reset (R36, R53). -/
def Share.reset (z : Fin 12) : Share :=
  { rank := 1, request := 0, grant := 0, cut := false, onCount := 0, offset := z.val * 100 / 12, output := false }

/-- HBO after pin reset (R35, R36, R53). -/
def Hbo.reset : Hbo :=
  { baseBudget := 0, curtailment := 200000, hysteresis := 100, budget := 0, totalRequest := 0
    throttle := .normal, frameLength := 100, requestedLength := 100, position := none, mains := .lost
    shares := Table.ofFn Share.reset }

/-- A scale unit after pin reset (R78). -/
def Scale.reset : Scale :=
  { state := .idle, gain := 0, band := 5, count := 8, timeout := 10, minPly := 100, validity := 30
    zero := 0, tareTime := none, currentLot := none, window := [], steadyRun := 0, reference := none
    deadline := none, live := { raw := 0, weight := 0, condition := .noReply }, session := none }

/-- LTR after pin reset (R97). -/
def Ltr.reset : Ltr :=
  { lots := [], agingPeriod := 60, stepAging := 60, rack := [] }

/-- SHC after pin reset (R122). -/
def Shc.reset : Shc :=
  { recipes := Table.replicate 8 none, mounted := none, assembling := none, press := none
    shotCounter := 1, chargeCounter := 1, partCounter := 1, station := 0
    heldClose := none, heldOpen := none }

/-- DMI after pin reset (R150). -/
def Dmi.reset : Dmi :=
  { holder := .free, claim := none, demould := none }

/-- HRG after pin reset (R166). -/
def Hrg.reset : Hrg :=
  { slots := Table.replicate 256 .free, writePos := 0, nextSeq := 1, lowMark := 16, below := false
    wallOffset := 0, wallSet := false }

/-- A port after pin reset (R178). -/
def PortState.reset : PortState :=
  { turnaround := 1, notices := [], lost := false, lastStatus := none, reply := none }

/-- The ports after pin reset (R178). -/
def Ports.reset : Ports :=
  { press := PortState.reset, charge := PortState.reset, handler := PortState.reset, trace := PortState.reset
    heldFetch := none, closeOutcome := none, openOutcome := none, ejectOutcome := none, claimOutcome := none }

/-- The part right after pin reset, with nothing waiting. -/
def State.reset : State :=
  { clock := 0, msq := Msq.reset, zct := Zct.reset, hbo := Hbo.reset, scales := Table.replicate 2 Scale.reset
    ltr := Ltr.reset, shc := Shc.reset, dmi := Dmi.reset, hrg := Hrg.reset, ports := Ports.reset
    freeCount := 0, pending := [] }

end Sys2Proof.Machine
end

