-- ==== Sys2Proof/Machine/Operands.lean ====
section
/-! DEFINITION. The operand forms of requests and reports (0.6, R181): identifiers and their ranges, clamped setup values,
sets of zones and of cavities; and the number forms of replies (R179). -/

namespace Sys2Proof.Machine

/-- An identifier operand as an index below `n`, or none where it is out of its range (0.6). -/
def inRange (n : Nat) (b : BitVec 8) : Option (Fin n) :=
  if h : b.toNat < n then some ⟨b.toNat, h⟩ else none

/-- A setup value taken to the nearer limit of its range (0.6). -/
def clampNat (lo hi v : Nat) : Nat :=
  max lo (min hi v)

/-- A signed setup value taken to the nearer limit of a range that is not negative (R15, R99). -/
def clampSigned (lo hi : Nat) (v : Int) : Nat :=
  clampNat lo hi v.toNat

/-- The status of a request that wrote setup values: CLAMPED if any was clamped, else OK (0.6). -/
def setupStatus (anyClamped : Bool) : Status :=
  if anyClamped then .clamped else .ok

/-- The cavities a cavity-mask operand names among 0 to 3, in ascending order (R181). -/
def maskCavities (m : BitVec 8) : List (Fin 4) :=
  (List.finRange 4).filter fun k => m.getLsbD k.val

/-- Whether a cavity-mask operand names a cavity at or above `n` (R106, R181). -/
def maskReaches (m : BitVec 8) (n : Nat) : Bool :=
  2 ^ n ≤ m.toNat

/-- Whether a zone-mask operand names a zone above 11 (R99, R181). -/
def maskBeyondZones (m : BitVec 16) : Bool :=
  4096 ≤ m.toNat

/-- The zone indices in a zone mask, in ascending order (0.6). -/
def maskZones (m : BitVec 12) : List (Fin 12) :=
  (List.finRange 12).filter fun z => m.getLsbD z.val

/-- The zone mask of a set of zones (R180, R181). -/
def zoneMask (zones : List (Fin 12)) : Nat :=
  (zones.map fun z => 2 ^ z.val).sum

/-- The cavity mask of a set of cavities (R180, R181). -/
def cavityMask (cavities : List Nat) : Nat :=
  (cavities.map fun k => 2 ^ k).sum

/-- A signed number in `k` bytes, two's complement (R179). -/
def beInt (k : Nat) (i : Int) : List Byte :=
  be k (i % (256 ^ k : Nat)).toNat

/-- A field that may be absent, in `k` bytes that read as 0 when it is (R179). -/
def beOpt (k : Nat) (o : Option Nat) : List Byte :=
  be k (o.getD 0)

/-- A signed field that may be absent (R179). -/
def beOptInt (k : Nat) (o : Option Int) : List Byte :=
  beInt k (o.getD 0)

/-- A list: a count byte, then its items (R180). -/
def beList (items : List (List Byte)) : List Byte :=
  be 1 items.length ++ items.flatten

/-- A ply: weight, then lot ID (R179). -/
def Ply.bytes (p : Ply) : List Byte :=
  be 2 p.weight ++ be 4 p.lot

/-- A ply list (R179). -/
def plyList (plies : List Ply) : List Byte :=
  beList (plies.map Ply.bytes)

end Sys2Proof.Machine
end

