-- ==== Sys2Proof/Machine/Flags.lean ====
section
/-! DEFINITION. Marks, presence bytes, flag sets and enumerations as bytes (R179, Table 11.1). -/

namespace Sys2Proof.Machine

/-- A group of bits as a number, bit 0 first (R179). -/
def bitsValue : List Bool → Nat
  | [] => 0
  | b :: rest => (if b then 1 else 0) + 2 * bitsValue rest

/-- A presence byte, or a byte of marks, bit 0 first (R179). -/
def bits (bs : List Bool) : List Byte :=
  be 1 (bitsValue bs)

/-- A yes-or-no field (R179). -/
def mark (b : Bool) : List Byte :=
  be 1 (if b then 1 else 0)

/-- The status byte's values (R179). -/
def Status.code : Status → Nat
  | .ok => 0
  | .clamped => 1
  | .accepted => 2
  | .held => 3
  | .gone => 4
  | .none => 5
  | .unknownCommand => 6
  | .notPermitted => 7
  | .truncated => 8
  | .badArgument => 9
  | .badState => 10
  | .busy => 11
  | .noMould => 12
  | .uncalibrated => 13
  | .tareStale => 14
  | .noLot => 15
  | .lotExpired => 16
  | .lotConflict => 17
  | .lotTableFull => 18
  | .rackFull => 19
  | .noCharge => 20
  | .chargeExpired => 21
  | .historyFull => 22
  | .zoneNotActive => 23
  | .zoneFault => 24

/-- Phase (Table 11.1). -/
def Phase.code : Phase → Nat
  | .assembling => 0
  | .closing => 1
  | .bumping => 2
  | .curing => 3
  | .cured => 4
  | .opened => 5
  | .aborted => 6

/-- Lock holder (Table 11.1). -/
def Holder.code : Holder → Nat
  | .free => 0
  | .press => 1
  | .handler => 2

/-- Zone mode (Table 11.1). -/
def ZoneMode.code : ZoneMode → Nat
  | .off => 0
  | .auto => 1
  | .manual => 2
  | .fault => 3

/-- Channel status of a thermocouple channel as judged (Table 11.1). -/
def Judged.code : Judged → Nat
  | .ok => 0
  | .open_ => 1
  | .range => 2
  | .noReply => 3
  | .stale => 4

/-- Channel status of a load-cell channel as recorded (Table 11.1). -/
def LcStatus.code : LcStatus → Nat
  | .ok => 0
  | .overrange => 1
  | .noReply => 3

/-- Rack state (Table 11.1). -/
def RackState.code : RackState → Nat
  | .queued => 0
  | .expired => 1
  | .staged _ _ _ => 2

/-- Disposition (Table 11.1). -/
def Disposition.code : Disposition → Nat
  | .good => 0
  | .suspect => 1
  | .scrap => 2

/-- Clear disposition (Table 11.1). -/
def ClearDisposition.code : ClearDisposition → Nat
  | .scrap => 0
  | .suspect => 1

/-- Scrap cause (Table 11.1). -/
def ScrapCause.code : ScrapCause → Nat
  | .sessionDiscard => 0
  | .overweight => 1
  | .rackDiscard => 2
  | .expiredDiscard => 3
  | .removedFromCavity => 4
  | .shotAborted => 5

/-- Held outcome, of a close (Table 11.1). -/
def CloseOutcome.code : CloseOutcome → Nat
  | .granted => 0
  | .withdrawn => 1
  | .portReset => 2
  | .productionReset => 3
  | .aborted => 4
  | .badState _ => 8
  | .chargeExpired _ => 9
  | .zoneNotActive _ => 10
  | .zoneFault _ => 11

/-- The cavity or zone a close outcome names (R177). -/
def CloseOutcome.named : CloseOutcome → Option Nat
  | .chargeExpired k => some k
  | .zoneNotActive z => some z
  | .zoneFault z => some z
  | .badState k => k
  | .granted => none
  | .withdrawn => none
  | .portReset => none
  | .productionReset => none
  | .aborted => none

/-- Held outcome, of an open (Table 11.1). -/
def OpenOutcome.code : OpenOutcome → Nat
  | .granted => 0
  | .portReset => 2
  | .opened => 5

/-- Held outcome, of an eject (Table 11.1). -/
def EjectOutcome.code : EjectOutcome → Nat
  | .granted => 0
  | .portReset => 2
  | .reclaimed => 6
  | .sealed => 7

/-- Held outcome, of a claim (Table 11.1). -/
def ClaimOutcome.code : ClaimOutcome → Nat
  | .granted => 0
  | .withdrawn => 1
  | .portReset => 2
  | .productionReset => 3

/-- Scale state (Table 11.1). -/
def ScaleState.code : ScaleState → Nat
  | .idle => 0
  | .taring => 1
  | .opened => 2
  | .capturing => 3

/-- Sample condition (Table 11.1). -/
def Condition.code : Condition → Nat
  | .ok => 0
  | .under => 1
  | .overload => 2
  | .noReply => 3

/-- Charge class (Table 11.1). -/
def ChargeClass.code : ChargeClass → Nat
  | .low => 0
  | .accept => 1
  | .high => 2

/-- Kind of SETTLED and SETTLE_TIMEOUT (Table 11.1). -/
def SettleKind.code : SettleKind → Nat
  | .tare => 0
  | .ply => 1

/-- Cavity state (Table 11.1). -/
def CavityState.code : CavityState → Nat
  | .empty => 0
  | .staged => 1
  | .loaded => 2
  | .curing => 3
  | .taken => 4
  | .stuck => 5
  | .cleared => 6

/-- Heat mode (Table 11.1). -/
def HeatMode.code : HeatMode → Nat
  | .production => 0
  | .standby => 1

/-- Throttle state (Table 11.1). -/
def Throttle.code : Throttle → Nat
  | .normal => 0
  | .throttled => 1

/-- Mains state (Table 11.1). -/
def Mains.code : Mains → Nat
  | .present => 0
  | .lost => 1

/-- The flag bits of R184, with the three that only a record carries given apart. -/
def flagBits (f : CavityFlags) (timeUnset overcured cureUnverified : Bool) : List Byte :=
  be 2 (bitsValue [timeUnset, f.bumpsShort, f.outtimeExceeded, f.openedEarly, f.demouldLate, f.forcedRelease,
    f.stuckCleared, overcured, cureUnverified])

/-- Notice kind (Table 11.1). -/
def NoticeBody.code : NoticeBody → Nat
  | .closeGranted _ => 0
  | .closeEnded _ _ => 1
  | .openGranted _ => 2
  | .cured _ _ _ => 3
  | .ejectGranted _ => 4
  | .stuck _ _ _ => 5
  | .demouldLate _ _ => 6
  | .zoneFault _ => 7
  | .standby _ => 8
  | .throttle _ _ _ => 9
  | .mains _ => 10
  | .historyLow _ _ _ => 11
  | .settledTare _ _ => 12
  | .settledPly _ _ _ _ _ _ => 12
  | .settleTimeout _ _ => 13
  | .plyTooLight _ _ => 14
  | .chargeExpired _ _ _ => 15
  | .rackHigh _ => 16
  | .lotMoved _ _ _ => 17
  | .claimGranted _ => 18
  | .ejected _ _ => 19
  | .lockReclaimed _ _ => 20
  | .shotAborted _ => 21
  | .opened _ _ => 22
  | .shotRecords _ _ => 23
  | .scrapRecords _ => 23

/-- A notice's fields, in the order its setting rule names them and in the widths of Table 11.2 (R180, R190). Where a field may be
absent, the presence byte of R180 heads them and the absent field reads as 0: the cavity or zone of CLOSE_ENDED (R111), the
cavity of CHARGE_EXPIRED (R90), the shot number of RECORDS_READY (R119, R157). Which fields are such: log entry 16. -/
def NoticeBody.fields : NoticeBody → List Byte
  | .closeGranted shot => be 4 shot
  | .closeEnded shot reason =>
    bits [reason.named.isSome] ++ be 4 shot ++ be 1 reason.code ++ beOpt 1 reason.named
  | .openGranted shot => be 4 shot
  | .cured shot second indices => be 4 shot ++ be 4 second ++ beList (indices.map fun x => be 1 x.1 ++ be 4 x.2)
  | .ejectGranted shot => be 4 shot
  | .stuck shot cavity attempts => be 4 shot ++ be 1 cavity ++ be 1 attempts
  | .demouldLate shot cavities => be 4 shot ++ be 1 (cavityMask cavities)
  | .zoneFault zone => be 1 zone
  | .standby mode => be 1 mode.code
  | .throttle state budget request => be 1 state.code ++ be 4 budget ++ be 4 request
  | .mains state => be 1 state.code
  | .historyLow available newest oldest => be 2 available ++ be 4 newest ++ be 4 oldest
  | .settledTare scale zero => be 1 scale ++ be 1 SettleKind.tare.code ++ beInt 3 zero
  | .settledPly scale chargeId index ply total cls =>
    be 1 scale ++ be 1 SettleKind.ply.code ++ be 4 chargeId ++ be 1 index ++ ply.bytes ++ be 2 total ++ be 1 cls.code
  | .settleTimeout scale kind => be 1 scale ++ be 1 kind.code
  | .plyTooLight scale difference => be 1 scale ++ beInt 4 difference
  | .chargeExpired chargeId position cavity =>
    bits [cavity.isSome] ++ be 4 chargeId ++ be 1 position ++
      be 1 (match cavity with | some k => RackState.staged k 0 true | none => RackState.expired).code ++ beOpt 1 cavity
  | .rackHigh count => be 1 count
  | .lotMoved lot left taken => be 4 lot ++ be 1 left ++ be 1 taken
  | .claimGranted second => be 4 second
  | .ejected shot count => be 4 shot ++ be 2 count
  | .lockReclaimed second flagged => be 4 second ++ be 1 flagged
  | .shotAborted shot => be 4 shot
  | .opened shot phase => be 4 shot ++ be 1 phase.code
  | .shotRecords shot sequences => bits [true] ++ be 4 shot ++ beList (sequences.map (be 4))
  | .scrapRecords sequences => bits [false] ++ beOpt 4 none ++ beList (sequences.map (be 4))

/-- An entry of the READ NOTICES reply (R190). -/
def Notice.entry (n : Notice) : List Byte :=
  be 1 n.body.code ++ be 4 n.second ++ be 1 n.body.fields.length ++ n.body.fields

end Sys2Proof.Machine
end

