-- ==== Sys2Proof/Machine/Ops.lean ====
section
/-! DEFINITION. The named operations every block shares: run-seconds and 32-bit figures, notices, answers, judged channels,
and the small changes of one shot, one cavity, one scale. -/

namespace Sys2Proof.Machine

/-! ### Run-seconds and issued numbers -/

/-- The seconds from a run-second of the past to now. Where the past one is the later, which only a run clock beyond its
end can bring about, the figure is a free value (log entry 4). -/
def elapsed (now past : Nat) : Nat :=
  if past ≤ now then now - past else (Config.freeElapsed now past).toNat

/-- A figure held in 32 bits: the exact sum where it fits, else a fresh free value (log entry 3). -/
def fitWord (n : Nat) (s : State) : Nat × State :=
  if n ≤ Config.maxWord then (n, s)
  else ((Config.freeWord s.freeCount n).toNat, { s with freeCount := s.freeCount + 1 })

/-! ### Ports, notices and answers -/

/-- A port's own state. -/
def Ports.get (ps : Ports) : Port → PortState
  | .press => ps.press
  | .charge => ps.charge
  | .handler => ps.handler
  | .trace => ps.trace

/-- The ports with one port's own state changed. -/
def Ports.modify (ps : Ports) (p : Port) (f : PortState → PortState) : Ports :=
  match p with
  | .press => { ps with press := f ps.press }
  | .charge => { ps with charge := f ps.charge }
  | .handler => { ps with handler := f ps.handler }
  | .trace => { ps with trace := f ps.trace }

/-- The state with one port's own state changed. -/
def State.modifyPort (s : State) (p : Port) (f : PortState → PortState) : State :=
  { s with ports := s.ports.modify p f }

/-- A port's attention line: asserted while its notice set holds at least one notice (R172). -/
def State.attention (s : State) (p : Port) : Bool :=
  !(s.ports.get p).notices.isEmpty

/-- A notice joins a notice set; on a full set the oldest leaves and the lost mark is set (R171). -/
def PortState.join (q : PortState) (n : Notice) : PortState :=
  if q.notices.length < Config.noticeRoom then { q with notices := q.notices ++ [n] }
  else { q with notices := q.notices.tail ++ [n], lost := true }

/-- A notice is set at a port, with the run-second of its setting (R171). -/
def setNotice (p : Port) (b : NoticeBody) (s : State) : State :=
  s.modifyPort p fun q => q.join ⟨b, s.clock⟩

/-- An answer: the status and the bytes of the reply fields (R167). -/
structure Answer where
  status : Status
  fields : List Byte
  deriving DecidableEq, Repr

/-- An answer of a status alone (R180). -/
def Answer.bare (st : Status) : Answer :=
  ⟨st, []⟩

/-- A refusal whose rule names a field, which follows as one byte (R180). -/
def Answer.named (st : Status) (n : Nat) : Answer :=
  ⟨st, be 1 n⟩

/-- The answer of a transaction taken: its status becomes the port's last status (R170), and the reply is formed, framed
with the turnaround `t` in force when the select period began (R167, R175). -/
def answer (p : Port) (t : Nat) (a : Answer) (s : State) : State :=
  s.modifyPort p fun q => { q with lastStatus := some a.status, reply := some ⟨t, a.status, a.fields⟩ }

/-! ### The bytes read back -/

/-- What the part returns for every byte outside the status byte and the reply fields (R179). -/
def filler : Byte := 255

/-- The bytes of a reply from the end of the operands on: the turnaround bytes, which read as filler, the status byte, and
the reply fields (R167, R180). -/
def Reply.frame (r : Reply) : List Byte :=
  List.replicate r.turnaround filler ++ be 1 r.status.code ++ r.fields

/-- What the part returns in a select period of `clocked` bytes, of which the first `sent` were the command and its operands:
filler for these, then the frame, then filler beyond its end; a reading cut short is a prefix of it (R167, R168, R179). -/
def Reply.selectPeriod (r : Reply) (sent clocked : Nat) : List Byte :=
  (List.range clocked).map fun i => (List.replicate sent filler ++ r.frame).getD i filler

/-- What a port returns in the select period of its last transaction taken, as `Reply.selectPeriod`; with none taken, filler
(R167, R168, R179). -/
def PortState.readBack (q : PortState) (sent clocked : Nat) : List Byte :=
  match q.reply with
  | some r => r.selectPeriod sent clocked
  | none => List.replicate clocked filler

/-! ### Thermocouple channels as judged -/

/-- A recorded status as a judged one (R9, cases 1 and 2). -/
def TcStatus.judged : TcStatus → Judged
  | .ok => .ok
  | .open_ => .open_
  | .range => .range
  | .noReply => .noReply

/-- The judged status of a thermocouple channel at a reading, in the order of R9. -/
def TcChannel.judge (c : TcChannel) (now limit : Nat) : Judged :=
  if !c.everOk then c.recorded.judged
  else if c.recorded ≠ .ok then c.recorded.judged
  else
    match c.lastOk with
    | some t => if limit < elapsed now t then .stale else .ok
    | none => .ok

/-- Channel `z` as judged now (R9, R11). -/
def State.judged (s : State) (z : Fin 12) : Judged :=
  (s.msq.tc.get z).judge s.clock s.msq.staleLimit

/-! ### Scales, recipes and shots -/

/-- One scale's record changed. -/
def State.modifyScale (s : State) (k : Fin 2) (f : Scale → Scale) : State :=
  { s with scales := s.scales.modify k f }

/-- The mounted recipe, if a mould is mounted (R101). -/
def State.recipe (s : State) : Option Recipe :=
  s.shc.mounted.bind fun i => s.shc.recipes.get i

/-- The enabled cavities of a shot with their records, in ascending order (R103). -/
def Shot.enabled (sh : Shot) : List (Fin 4 × Cavity) :=
  (List.finRange 4).filterMap fun k => (sh.cavities.get k).map fun c => (k, c)

/-- Every enabled cavity's record changed. -/
def Shot.mapEnabled (sh : Shot) (f : Fin 4 → Cavity → Cavity) : Shot :=
  { sh with cavities := sh.cavities.mapIdx fun k o => o.map (f k) }

/-- One cavity's record changed, where it is enabled. -/
def Shot.modifyCavity (sh : Shot) (k : Fin 4) (f : Cavity → Cavity) : Shot :=
  { sh with cavities := sh.cavities.modify k (Option.map f) }

/-- The enabled mask of a shot (R103). -/
def Shot.mask (sh : Shot) : Nat :=
  cavityMask (sh.enabled.map fun x => x.1.val)

/-- The zones in the zone mask of at least one enabled cavity of a shot, in ascending order (R41, R109). -/
def State.zonesOf (s : State) (sh : Shot) : List (Fin 12) :=
  match s.recipe with
  | none => []
  | some r => (List.finRange 12).filter fun z => sh.enabled.any fun x => (r.cavities.get x.1).mask.getLsbD z.val

/-- No flag set. -/
def CavityFlags.clear : CavityFlags :=
  { bumpsShort := false, outtimeExceeded := false, openedEarly := false, demouldLate := false,
    forcedRelease := false, stuckCleared := false }

/-- The record an enabled cavity gets at ARM SHOT (R106). -/
def Cavity.fresh : Cavity :=
  { state := .empty, chargeId := none, sequence := none, charge := none, loadTime := none, station := none
    part := none, cure := none, attempts := none, failMark := none, takeTime := none, latency := none
    clear := none, flags := CavityFlags.clear }

/-- A cavity whose charge has left it: EMPTY, and holding no charge (R94, R104, R108, R118). -/
def Cavity.emptied (c : Cavity) : Cavity :=
  { c with state := .empty, chargeId := none, sequence := none, charge := none, loadTime := none }

/-- The assembling shot changed, if there is one. -/
def State.modifyAssembling (s : State) (f : Shot → Shot) : State :=
  { s with shc := { s.shc with assembling := s.shc.assembling.map f } }

/-- The press-side shot changed, if there is one. -/
def State.modifyPress (s : State) (f : Shot → Shot) : State :=
  { s with shc := { s.shc with press := s.shc.press.map f } }

/-- The press-side shot, where it is in the given phase. -/
def State.pressIn (s : State) (ph : Phase) : Option Shot :=
  s.shc.press.filter fun sh => sh.phase = ph

/-- Whether the shot table holds no shot (R29). -/
def State.tableEmpty (s : State) : Bool :=
  s.shc.assembling.isNone && s.shc.press.isNone

end Sys2Proof.Machine
end

