-- ==== Sys2Proof/Machine/Heat.lean ====
section
/-! DEFINITION. Setpoints and the heat mode: the derivation of R17 and the shared changes of R29 to R32. -/

namespace Sys2Proof.Machine

/-- The base of a zone's setpoint: the mounted recipe's, or the zone's idle setpoint, a pending one first (R17). -/
def State.baseSetpoint (s : State) (z : Fin 12) : Nat :=
  match s.recipe with
  | some r => r.setpoints.get z
  | none => ((s.zct.zones.get z).pendingSetup.getD (s.zct.zones.get z).active).idle

/-- A zone's setpoint as its sources now give it (R17). -/
def State.derivedSetpoint (s : State) (z : Fin 12) : Nat :=
  match s.zct.heatMode with
  | .production => s.baseSetpoint z
  | .standby => s.baseSetpoint z - s.zct.setback

/-- One zone's pending setpoint derived afresh (R17). -/
def deriveZone (z : Fin 12) (s : State) : State :=
  { s with zct := { s.zct with
      zones := s.zct.zones.modify z fun x => { x with pendingSetpoint := s.derivedSetpoint z } } }

/-- Every zone's pending setpoint derived afresh (R17). -/
def deriveAll (s : State) : State :=
  { s with zct := { s.zct with
      zones := s.zct.zones.mapIdx fun z x => { x with pendingSetpoint := s.derivedSetpoint z } } }

/-- The station enters STANDBY (R30). -/
def enterStandby (s : State) : State :=
  setNotice .press (.standby .standby)
    (deriveAll { s with zct := { s.zct with heatMode := .standby, emptySince := none } })

/-- The station returns to PRODUCTION, the empty-since second as given (R31, R32). -/
def enterProduction (emptySince : Option Nat) (s : State) : State :=
  setNotice .press (.standby .production)
    (deriveAll { s with zct := { s.zct with heatMode := .production, emptySince := emptySince } })

/-- A shot entry has been freed: where the table is now empty and the heat mode is PRODUCTION, the standby wait starts
from now (R29, R103). -/
def entryFreed (s : State) : State :=
  if s.tableEmpty && s.zct.heatMode == .production then { s with zct := { s.zct with emptySince := some s.clock } } else s

/-- Whether the standby wait has run out under a delay in minutes (R29). -/
def State.waitOver (s : State) (delay : Nat) : Bool :=
  match s.zct.emptySince with
  | none => false
  | some t => decide (delay ≠ 0) && decide (delay * 60 ≤ elapsed s.clock t)

end Sys2Proof.Machine
end

