-- ==== Sys2Proof/Machine/Records.lean ====
section
/-! DEFINITION. The history records: how a PART and a SCRAP record are made (R158 to R161) and laid out (R184). -/

namespace Sys2Proof.Machine

/-- The timestamp of a run-second: with the wall offset, modulo 2 to the 32 (R158). -/
def State.stamp (s : State) (t : Nat) : Nat :=
  (t + s.hrg.wallOffset) % 4294967296

/-- The SCRAP record of a charge, sealed now (R160). `close`, `load` and `shotCavity` are given where the cause has them. -/
def scrapRecord (s : State) (cause : ScrapCause) (c : Charge) (close load : Option Nat)
    (shotCavity : Option (Nat × Nat)) : ScrapRecord :=
  { cause := cause
    chargeId := c.id
    mouldId := c.mouldId
    revision := c.revision
    group := c.group
    total := c.total
    plies := c.plies
    start := s.stamp c.start
    lastPly := s.stamp c.lastPly
    close := close.map s.stamp
    load := load.map s.stamp
    sealTime := s.stamp s.clock
    shotCavity := shotCavity
    timeUnset := !s.hrg.wallSet }

/-- The cure fields at cure start (R123). -/
def Cure.start : Cure :=
  { index := 0, seconds := 0, minT := none, maxT := none, blind := 0, throttled := 0, accounting := true, last := none }

/-- Whether a flag or the clear disposition makes a part at least SUSPECT (R161). -/
def suspectMarks (f : CavityFlags) (clear : Option ClearDisposition) (overcured unverified : Bool) : Bool :=
  overcured || unverified || f.openedEarly || f.demouldLate || f.outtimeExceeded || f.bumpsShort || f.forcedRelease
    || clear == some .suspect

/-- The disposition of a PART record (R161). -/
def dispositionOf (index target : Nat) (f : CavityFlags) (clear : Option ClearDisposition)
    (overcured unverified : Bool) : Disposition :=
  if index < target || clear == some .scrap then .scrap
  else if suspectMarks f clear overcured unverified then .suspect
  else .good

/-- The PART record of a cavity, sealed now (R159, R161). -/
def partRecord (s : State) (r : Recipe) (sh : Shot) (k : Fin 4) (v : Cavity) (c : Charge) : PartRecord :=
  let cure := v.cure.getD Cure.start
  let overcured := decide (r.overCure < cure.index)
  let unverified := decide (r.blindLimit < cure.blind)
  { shot := sh.number
    mouldId := sh.mouldId
    revision := sh.revision
    cavity := k.val
    station := v.station.getD 0
    part := v.part.getD 0
    chargeId := c.id
    total := c.total
    plies := c.plies
    close := s.stamp c.close
    load := s.stamp (v.loadTime.getD 0)
    cureStart := s.stamp (sh.times.cureStart.getD 0)
    sealTime := s.stamp s.clock
    take := v.takeTime.map s.stamp
    cureSeconds := cure.seconds
    finalIndex := cure.index
    minT := cure.minT
    maxT := cure.maxT
    blind := cure.blind
    throttled := cure.throttled
    latency := v.latency
    attempts := v.attempts.getD 0
    clear := v.clear
    flags := v.flags
    overcured := overcured
    cureUnverified := unverified
    timeUnset := !s.hrg.wallSet
    disposition := dispositionOf cure.index r.cureTarget v.flags v.clear overcured unverified }

/-- A PART record in bytes (R184). -/
def PartRecord.bytes (r : PartRecord) : List Byte :=
  be 1 0
    ++ bits [r.take.isSome, r.minT.isSome, r.maxT.isSome, r.latency.isSome, r.clear.isSome]
    ++ be 4 r.shot ++ be 2 r.mouldId ++ be 1 r.revision ++ be 1 r.cavity
    ++ be 2 r.station ++ be 4 r.part ++ be 4 r.chargeId ++ be 2 r.total
    ++ be 4 r.close ++ be 4 r.load ++ be 4 r.cureStart ++ be 4 r.sealTime ++ beOpt 4 r.take
    ++ be 4 r.cureSeconds ++ be 4 r.finalIndex ++ beOptInt 2 r.minT ++ beOptInt 2 r.maxT
    ++ be 2 r.blind ++ be 2 r.throttled ++ beOpt 4 r.latency ++ be 1 r.attempts
    ++ beOpt 1 (r.clear.map ClearDisposition.code)
    ++ flagBits r.flags r.timeUnset r.overcured r.cureUnverified
    ++ be 1 r.disposition.code ++ plyList r.plies

/-- A SCRAP record in bytes (R184). -/
def ScrapRecord.bytes (r : ScrapRecord) : List Byte :=
  be 1 1
    ++ bits [r.close.isSome, r.load.isSome, r.shotCavity.isSome]
    ++ be 1 r.cause.code ++ be 4 r.chargeId ++ be 2 r.mouldId ++ be 1 r.revision ++ be 1 r.group ++ be 2 r.total
    ++ be 4 r.start ++ be 4 r.lastPly ++ beOpt 4 r.close ++ beOpt 4 r.load ++ be 4 r.sealTime
    ++ beOpt 4 (r.shotCavity.map Prod.fst) ++ beOpt 1 (r.shotCavity.map Prod.snd)
    ++ bits [r.timeUnset] ++ plyList r.plies

/-- A record in bytes (R184). -/
def Record.bytes : Record → List Byte
  | .part r => r.bytes
  | .scrap r => r.bytes

/-- The plies a record carries (R85). -/
def Record.plies : Record → List Ply
  | .part r => r.plies
  | .scrap r => r.plies

end Sys2Proof.Machine
end

