-- ==== Sys2Proof/Machine/Ring.lean ====
section
/-! DEFINITION. The history ring's shared operations: the available count and the low-water comparison, the issue of a
number, sealing and voiding a slot, the FETCH reply; and the port layer's taking of a transaction, which needs the held
fetch (R151 to R164, R167 to R170). -/

namespace Sys2Proof.Machine

/-- A slot that may be reused (9.1). -/
def Slot.reusable : Slot → Bool
  | .free => true
  | .reserved _ => false
  | .sealed _ _ => false
  | .collected _ _ => true
  | .void _ => true

/-- The sequence number a slot holds (R151). -/
def Slot.sequence : Slot → Option Nat
  | .free => none
  | .reserved q => some q
  | .sealed q _ => some q
  | .collected q _ => some q
  | .void q => some q

/-- The newest issued sequence (R151). -/
def State.newest (s : State) : Nat :=
  s.hrg.nextSeq - 1

/-- The oldest retained sequence (R151). -/
def State.oldest (s : State) : Nat :=
  max 1 (s.newest - 255)

/-- The slot a sequence number lies in (R151). -/
def slotOf (q : Nat) : Fin 256 :=
  Fin.ofNat 256 (q - 1)

/-- The available count: the run of reusable slots from the write position on, wrapping once round (R153). -/
def State.available (s : State) : Nat :=
  let slots := s.hrg.slots.toList
  ((slots.drop s.hrg.writePos.val ++ slots.take s.hrg.writePos.val).takeWhile Slot.reusable).length

/-- Whether a number can be issued: a slot is available, and 4,294,967,295 has not been issued (R152). -/
def State.canIssue (s : State) : Bool :=
  decide (0 < s.available) && decide (s.hrg.nextSeq ≤ Config.maxWord)

/-- The comparison of the available count with the low-water mark, with its HISTORY_LOW notices (R154). -/
def compareLow (s : State) : State :=
  let below := decide (s.available < s.hrg.lowMark)
  let s' := { s with hrg := { s.hrg with below := below } }
  if below && !s.hrg.below then
    let body := NoticeBody.historyLow s.available s.newest s.oldest
    setNotice .trace body (setNotice .press body s')
  else s'

/-- The issue of the next sequence number: the slot at the write position is taken, and the write position moves on
(R152, steps 1 to 4). -/
def issue (content : Nat → Slot) (s : State) : State :=
  { s with
    hrg := { s.hrg with
      slots := s.hrg.slots.set s.hrg.writePos (content s.hrg.nextSeq)
      nextSeq := s.hrg.nextSeq + 1
      writePos := s.hrg.writePos + 1 } }

/-- A reservation: number and RESERVED slot, then the comparison (R152, R156). -/
def reserve (s : State) : State :=
  compareLow (issue .reserved s)

/-- Slot `q`'s content replaced, where the slot is RESERVED for `q`. -/
def replaceReserved (q : Nat) (content : Slot) (s : State) : State :=
  if s.hrg.slots.get (slotOf q) = .reserved q then
    { s with hrg := { s.hrg with slots := s.hrg.slots.set (slotOf q) content } }
  else s

/-- A reservation given up: the slot becomes VOID, and the count is compared (R154, R156). -/
def voidSlot (q : Nat) (s : State) : State :=
  compareLow (replaceReserved q (.void q) s)

/-- A record sealed into the slot reserved for it (R157). -/
def sealReserved (q : Nat) (r : Record) (s : State) : State :=
  replaceReserved q (.sealed q r) s

/-- The RECORDS_READY notice of the SCRAP records an event sealed; none where it sealed none (R157). -/
def readyScraps (sequences : List Nat) (s : State) : State :=
  if sequences.isEmpty then s else setNotice .trace (.scrapRecords sequences) s

/-! ### Reading the ring -/

/-- An entry of a FETCH reply (R163, R184). -/
def Slot.entry : Slot → List Byte
  | .free => []
  | .reserved q => be 4 q ++ be 1 1 ++ be 2 0
  | .sealed q r => be 4 q ++ be 1 2 ++ be 2 r.bytes.length ++ r.bytes
  | .collected q r => be 4 q ++ be 1 3 ++ be 2 r.bytes.length ++ r.bytes
  | .void q => be 4 q ++ be 1 4 ++ be 2 0

/-- The FETCH reply's header, with the number of entries (R180). -/
def State.fetchHeader (s : State) (entries : Nat) : List Byte :=
  be 4 s.newest ++ be 4 s.oldest ++ be 2 s.available ++ be 1 entries

/-- How many entries a fetch from `start` of at most `count` returns (R162). -/
def State.fetchCount (s : State) (start count : Nat) : Nat :=
  min count (s.newest + 1 - start)

/-- The answer of a fetch (R162, R163). -/
def State.fetchAnswer (s : State) (start count : Nat) : Answer :=
  if start < s.oldest then ⟨.gone, s.fetchHeader 0⟩
  else if s.newest < start then ⟨.none, s.fetchHeader 0⟩
  else
    let n := s.fetchCount start (clampNat 1 8 count)
    ⟨setupStatus (clampNat 1 8 count ≠ count),
      s.fetchHeader n ++ ((List.range n).flatMap fun i => (s.hrg.slots.get (slotOf (start + i))).entry)⟩

/-- The held fetch's next sequence after a fetch from `start` (R164). -/
def State.fetchNext (s : State) (start count : Nat) : Nat :=
  if start < s.oldest then s.oldest
  else if s.newest < start then start
  else start + s.fetchCount start (clampNat 1 8 count)

/-! ### Taking a transaction -/

/-- Whether a transaction on this port is a count: the trace port in held fetch (R164). -/
def State.inHeldFetch (s : State) (p : Port) : Bool :=
  p == .trace && s.ports.heldFetch.isSome

/-- A count taken in held fetch: 0 ends it; any other fetches from the next sequence and moves it on (R164). -/
def takeCount (count : Nat) (s : State) : State :=
  let t := s.ports.trace.turnaround
  match s.ports.heldFetch with
  | none => s
  | some next =>
    if count = 0 then
      answer .trace t (.bare .ok) { s with ports := { s.ports with heldFetch := none } }
    else
      answer .trace t (s.fetchAnswer next count)
        { s with ports := { s.ports with heldFetch := some (s.fetchNext next count) } }

/-- A request or report is taken: in held fetch its first byte is a count (R164); else the port check comes first (R169),
and then its owner decides it. -/
def transact (p : Port) (c : Command) (owner : State → State × Answer) (s : State) : State :=
  if s.inHeldFetch p then takeCount c.row.byte s
  else if c.permitted p then answer p (s.ports.get p).turnaround (owner s).2 (owner s).1
  else answer p (s.ports.get p).turnaround (.bare .notPermitted) s

end Sys2Proof.Machine
end

