-- ==== Sys2Proof/Machine/Material.lean ====
section
/-! DEFINITION. The shared operations of the lot table and the charge rack: use and release of a lot, the reference counts,
the entry and leaving of a rack record, and the immediate scrap (R79 to R95, R157). -/

namespace Sys2Proof.Machine

/-! ### The lot table -/

/-- The entry of a lot (R79). -/
def State.lot? (s : State) (id : Nat) : Option Lot :=
  s.ltr.lots.find? fun l => l.id == id

/-- The scale of which a lot is the current lot (R82). -/
def State.currentScale (s : State) (id : Nat) : Option (Fin 2) :=
  (List.finRange 2).find? fun k => (s.scales.get k).currentLot == some id

/-- Whether a lot is the armed lot of a scale in CAPTURING (R72). -/
def State.armed (s : State) (id : Nat) : Bool :=
  (List.finRange 2).any fun k =>
    (s.scales.get k).state == .capturing && (s.scales.get k).session.any fun e => e.armedLot == some id

/-- Whether a lot entry is in use (R79). -/
def State.lotInUse (s : State) (l : Lot) : Bool :=
  decide (0 < l.refs) || (s.currentScale l.id).isSome || s.armed l.id

/-- A lot's entry changed, where the table holds it. -/
def State.modifyLot (s : State) (id : Nat) (f : Lot → Lot) : State :=
  { s with ltr := { s.ltr with lots := s.ltr.lots.map fun l => if l.id = id then f l else l } }

/-- A use of a lot has ended: if the entry is no longer in use, its last-seen becomes now (R79). -/
def releaseLot (id : Nat) (s : State) : State :=
  s.modifyLot id fun l => if s.lotInUse l then l else { l with lastSeen := s.clock }

/-- A use of a lot has ended, where there was one. -/
def releaseLot? (id : Option Nat) (s : State) : State :=
  match id with
  | none => s
  | some i => releaseLot i s

/-- A captured ply names the lot: its reference count rises by 1 (R68, R85). -/
def raiseRef (id : Nat) (s : State) : State :=
  s.modifyLot id fun l => { l with refs := l.refs + 1 }

/-- A sealed record carries a ply of the lot: its reference count falls by 1 (R85). -/
def lowerRef (id : Nat) (s : State) : State :=
  releaseLot id (s.modifyLot id fun l => { l with refs := l.refs - 1 })

/-- The reference counts fall for every ply of a sealed record (R85). -/
def lowerRefs (plies : List Ply) (s : State) : State :=
  plies.foldl (fun st p => lowerRef p.lot st) s

/-- A lot entry put in its place in the ascending table. -/
def insertLot (l : Lot) : List Lot → List Lot
  | [] => [l]
  | m :: rest => if l.id < m.id then l :: m :: rest else m :: insertLot l rest

/-- The entry to evict among the candidates: the oldest last-seen, and of these the lowest lot ID (R81). The candidates
come in ascending order of lot ID, so the first with the oldest last-seen is the one. -/
def oldestSeen : List Lot → Option Lot
  | [] => none
  | l :: rest =>
    match oldestSeen rest with
    | none => some l
    | some m => if m.lastSeen < l.lastSeen then some m else some l

/-- The entries not in use (R81). -/
def State.idleLots (s : State) : List Lot :=
  s.ltr.lots.filter fun l => !s.lotInUse l

/-! ### The rack -/

/-- The rack record of a charge (R91). -/
def State.rackRecord? (s : State) (id : Nat) : Option RackRecord :=
  s.ltr.rack.find? fun r => r.charge.id == id

/-- A charge's rack record changed, in its place in the queue. -/
def State.modifyRack (s : State) (id : Nat) (f : RackRecord → RackRecord) : State :=
  { s with ltr := { s.ltr with rack := s.ltr.rack.map fun r => if r.charge.id = id then f r else r } }

/-- A charge's record leaves the rack; those behind it move up (R88). -/
def State.leaveRack (s : State) (id : Nat) : State :=
  { s with ltr := { s.ltr with rack := s.ltr.rack.filter fun r => r.charge.id ≠ id } }

/-- The lowest position with no record (R88). -/
def lowestFree (rack : List RackRecord) : Option Nat :=
  (List.range Config.rackRoom).find? fun i => rack.all fun r => r.position ≠ i

/-- The out-deadline of a charge closed now: the least of the close time plus the out-time and the floor-life deadlines
of its lots (R89), before it is held in 32 bits. -/
def State.outDeadline (s : State) (plies : List Ply) (outTime : Nat) : Nat :=
  (plies.filterMap fun p => (s.lot? p.lot).map Lot.deadline).foldl min (s.clock + outTime * 60)

/-- Whether a record reaches its out-deadline at the run-second now running and has not yet been marked (R90). -/
def State.expiring (s : State) (r : RackRecord) : Bool :=
  decide (r.charge.outDeadline = s.clock) &&
    match r.state with
    | .queued => true
    | .staged _ _ late => !late
    | .expired => false

/-- The state a returned record takes: QUEUED before its out-deadline, and in the out-deadline's own run-second while its
expiry has not been taken, which then finds it QUEUED; EXPIRED otherwise (R94; log entry 30). -/
def State.returnState (s : State) (r : RackRecord) : RackState :=
  if s.clock < r.charge.outDeadline || s.expiring r then .queued else .expired

/-- A charge enters the rack at its lowest free position and at the end of the queue, QUEUED or EXPIRED, with the notices
of R88 and R89. -/
def enterRack (c : Charge) (position : Nat) (s : State) : State :=
  let st := if s.clock < c.outDeadline then RackState.queued else RackState.expired
  let s1 := { s with ltr := { s.ltr with rack := s.ltr.rack ++ [⟨c, position, st⟩] } }
  let s2 := if s1.ltr.rack.length = 14 then setNotice .charge (.rackHigh 14) s1 else s1
  if st = .expired then setNotice .charge (.chargeExpired c.id position none) s2 else s2

/-! ### The immediate scrap -/

/-- A SCRAP record sealed at the write position with a new sequence number: the issue, the fall of the reference counts,
RECORDS_READY, and the comparison of the available count (R152, R157). -/
def scrapNow (r : ScrapRecord) (s : State) : State :=
  let s1 := issue (fun q => .sealed q (.scrap r)) s
  compareLow (readyScraps [s.hrg.nextSeq] (lowerRefs r.plies s1))

end Sys2Proof.Machine
end

