-- ==== Sys2Proof/Machine/ShotOps.lean ====
section
/-! DEFINITION. The shared operations of the shot controller and the demould interlock: deciding, granting and ending a
close (R109 to R112), the return and the scrapping of charges (R94, R108, R118), the release of the lock (R138), the end of
the demould state and the seal of a shot (R119, R143). -/

namespace Sys2Proof.Machine

/-! ### The close -/

/-- The lowest enabled cavity not LOADED (R109). -/
def Shot.notLoaded (sh : Shot) : Option (Fin 4) :=
  (sh.enabled.find? fun x => x.2.state ≠ .loaded).map Prod.fst

/-- Whether a cavity's charge has reached its out-deadline (R109, R114). -/
def Cavity.overdue (c : Cavity) (now : Nat) : Bool :=
  match c.charge with
  | none => false
  | some h => decide (h.outDeadline ≤ now)

/-- The lowest enabled cavity whose charge has reached its out-deadline (R109). -/
def Shot.firstOverdue (sh : Shot) (now : Nat) : Option (Fin 4) :=
  (sh.enabled.find? fun x => x.2.overdue now).map Prod.fst

/-- The lowest needed zone in the given mode (R109). -/
def State.neededIn (s : State) (sh : Shot) (m : ZoneMode) : Option (Fin 12) :=
  (s.zonesOf sh).find? fun z => (s.zct.zones.get z).mode = m

/-- The refusal of a close, cases 1 to 4 of R109, with the reason a held close keeps (R111, R177); none where no case applies.
The out-deadlines are compared with the run clock at every examination: in a deadline's own run-second a boundary or a lock
change taken before the deadline's event ends the held close with CHARGE_EXPIRED (DESIGN CHOICE, log entry 29). -/
def State.closeRefusal (s : State) : Option (Answer × CloseOutcome) :=
  match s.shc.assembling with
  | none => some (.bare .badState, .badState none)
  | some sh =>
    if s.shc.press.isSome then some (.bare .badState, .badState none)
    else
      match sh.notLoaded with
      | some k => some (.named .badState k.val, .badState (some k.val))
      | none =>
        match sh.firstOverdue s.clock with
        | some k => some (.named .chargeExpired k.val, .chargeExpired k.val)
        | none =>
          match s.neededIn sh .off with
          | some z => some (.named .zoneNotActive z.val, .zoneNotActive z.val)
          | none =>
            match s.neededIn sh .fault with
            | some z => some (.named .zoneFault z.val, .zoneFault z.val)
            | none => none

/-- The needed zones that are not READY (R109). -/
def State.notReadyZones (s : State) : List (Fin 12) :=
  match s.shc.assembling with
  | none => []
  | some sh => (s.zonesOf sh).filter fun z => !(s.zct.zones.get z).ready

/-- Whether the three hold conditions of a close are met: the lock FREE or held by the press port, every needed zone READY,
the throttle state NORMAL (R109). -/
def State.holdMet (s : State) : Bool :=
  s.dmi.holder != .handler && s.notReadyZones.isEmpty && s.hbo.throttle == .normal

/-- The hold conditions as a reply carries them: the lock holder, the needed zones not READY, the throttle state (R180). -/
def State.holdFields (s : State) : List Byte :=
  be 1 s.dmi.holder.code ++ be 2 (zoneMask s.notReadyZones) ++ be 1 s.hbo.throttle.code

/-- The grant of a close: the lock passes to the press port, the shot becomes CLOSING and press-side, and the held close,
if any, is dropped with outcome GRANTED (R112, R138). -/
def grantClose (s : State) : State :=
  match s.shc.assembling with
  | none => s
  | some sh =>
    { s with
      dmi := { s.dmi with holder := .press }
      shc := { s.shc with
        assembling := none
        press := some { sh with phase := .closing, times := { sh.times with closeGrant := some s.clock } }
        heldClose := none }
      ports := { s.ports with closeOutcome := some .granted } }

/-- The held close, if any, ends without a grant, for a reason (R111). -/
def endClose (reason : CloseOutcome) (s : State) : State :=
  match s.shc.heldClose with
  | none => s
  | some h =>
    setNotice .press (.closeEnded h.shot reason)
      { s with
        shc := { s.shc with heldClose := none }
        ports := { s.ports with closeOutcome := some reason } }

/-- The held close, if any, is re-examined (R110). -/
def reexamine (s : State) : State :=
  match s.shc.heldClose with
  | none => s
  | some h =>
    match s.closeRefusal with
    | some (_, reason) => endClose reason s
    | none => if s.holdMet then setNotice .press (.closeGranted h.shot) (grantClose s) else s

/-! ### Charges leaving cavities without cure -/

/-- The cavity record of the assembling shot (R92, R94, R107, R108). -/
def State.assemblingCavity (s : State) (k : Fin 4) : Option Cavity :=
  s.shc.assembling.bind fun sh => sh.cavities.get k

/-- The cavity record of the press-side shot (R145, R147). -/
def State.pressCavity (s : State) (k : Fin 4) : Option Cavity :=
  s.shc.press.bind fun sh => sh.cavities.get k

/-- A staged charge returns to the rack: the record QUEUED or EXPIRED in its place, its reserved slot VOID, the cavity
EMPTY (R94). -/
def returnStaged (k : Fin 4) (r : RackRecord) (sequence : Nat) (s : State) : State :=
  let s1 := s.modifyRack r.charge.id fun x => { x with state := s.returnState r }
  voidSlot sequence (s1.modifyAssembling fun sh => sh.modifyCavity k Cavity.emptied)

/-- The charge staged to a cavity of the assembling shot: its rack record and reserved sequence (R94, R107). -/
def State.stagedCharge (s : State) (k : Fin 4) : Option (RackRecord × Nat) :=
  match s.assemblingCavity k with
  | none => none
  | some c =>
    if c.state = .staged then
      match c.chargeId.bind s.rackRecord?, c.sequence with
      | some r, some q => some (r, q)
      | _, _ => none
    else none

/-- A cavity's charge is sealed as SCRAP into the slot reserved for it, and the counts of its lots fall (R108, R118, R157). -/
def scrapCavity (cause : ScrapCause) (shot : Nat) (k : Fin 4) (c : Cavity) (s : State) : State :=
  match c.charge, c.sequence with
  | some h, some q =>
    lowerRefs h.plies
      (sealReserved q (.scrap (scrapRecord s cause h (some h.close) c.loadTime (some (shot, k.val)))) s)
  | _, _ => s

/-- The sequence under which a cavity's charge is sealed, where it holds one. -/
def Cavity.sealSequence (c : Cavity) : Option Nat :=
  if c.charge.isSome then c.sequence else none

/-- The cavities among these whose charge is in the mould. -/
def heldCavities (cs : List (Fin 4 × Cavity)) : List (Fin 4 × Cavity) :=
  cs.filter fun x => x.2.sealSequence.isSome

/-- The sequences under which cavities' charges are sealed, in cavity order: the order of R119 for the seal of a shot, and for
an abort, to which R118 and R157 give none, the model's: DESIGN CHOICE, log entry 34. -/
def sealSequences (cs : List (Fin 4 × Cavity)) : List Nat :=
  cs.filterMap fun x => x.2.sealSequence

/-- Every charge held in a shot's cavities is sealed as SCRAP with cause SHOT_ABORTED, with one RECORDS_READY notice
(R118, R157). -/
def scrapShot (sh : Shot) (s : State) : State :=
  readyScraps (sealSequences sh.enabled)
    ((heldCavities sh.enabled).foldl (fun st x => scrapCavity .shotAborted sh.number x.1 x.2 st) s)

/-- The cavities STAGED in a shot. -/
def Shot.stagedCavities (sh : Shot) : List (Fin 4) :=
  (sh.enabled.filter fun x => x.2.state = .staged).map Prod.fst

/-- The return of one cavity's staged charge in an abort (R118, step 2). -/
def returnCavity (k : Fin 4) (s : State) : State :=
  match s.stagedCharge k with
  | none => s
  | some (r, q) => returnStaged k r q s

/-- The abort of the assembling shot, its held close ending for a reason (R118, R120). -/
def abortAssembling (sh : Shot) (reason : CloseOutcome) (s : State) : State :=
  let s1 := endClose reason s
  let s2 := sh.stagedCavities.foldl (fun st k => returnCavity k st) s1
  let s3 := scrapShot sh s2
  let s4 := setNotice .handler (.shotAborted sh.number) s3
  entryFreed { s4 with shc := { s4.shc with assembling := none } }

/-- The abort of the press-side shot in CLOSING or BUMPING: its charges are scrapped, its cavities hold none, and it is
ABORTED (R118). -/
def abortPress (sh : Shot) (s : State) : State :=
  let s1 := setNotice .handler (.shotAborted sh.number) (scrapShot sh s)
  { s1 with shc := { s1.shc with press := some { sh.mapEnabled (fun _ c => c.emptied) with phase := .aborted } } }

/-! ### The lock and the demould state -/

/-- The press's hold is released: the lock passes to a pending claim of the handler, with its notice, or becomes FREE
(R138). The shot controller's re-examination follows apart. -/
def releasePress (s : State) : State :=
  if s.dmi.holder = .press then
    match s.dmi.claim with
    | some _ =>
      setNotice .handler (.claimGranted s.clock)
        { s with
          dmi := { s.dmi with holder := .handler, claim := none }
          ports := { s.ports with claimOutcome := some .granted } }
    | none => { s with dmi := { s.dmi with holder := .free } }
  else s

/-- The handler lets go of the lock, or has it taken: FREE, ENGAGED cleared and a standing eject grant withdrawn
(R137, R139). -/
def handlerLetsGo (s : State) : State :=
  { s with dmi := { s.dmi with
      holder := .free
      demould := s.dmi.demould.map fun d => { d with engaged := false, grant := false } } }

/-- The held eject, if any, ends without a grant and without a notice (R143). -/
def endEject (outcome : EjectOutcome) (s : State) : State :=
  match s.dmi.demould with
  | none => s
  | some d =>
    if d.heldEject then
      { s with
        dmi := { s.dmi with demould := some { d with heldEject := false } }
        ports := { s.ports with ejectOutcome := some outcome } }
    else s

/-- A pending claim, if any, ends without a grant and without a notice (R137, R150). -/
def endClaim (outcome : ClaimOutcome) (s : State) : State :=
  match s.dmi.claim with
  | none => s
  | some _ =>
    { s with
      dmi := { s.dmi with claim := none }
      ports := { s.ports with claimOutcome := some outcome } }

/-- A held open, if any, ends without a grant and without a notice (R116). -/
def endOpen (outcome : OpenOutcome) (s : State) : State :=
  match s.shc.heldOpen with
  | none => s
  | some _ =>
    { s with
      shc := { s.shc with heldOpen := none }
      ports := { s.ports with openOutcome := some outcome } }

/-- Whether a cavity is ready to report (R140). -/
def Demould.readyToReport (d : Demould) (c : Cavity) : Bool :=
  decide (d.engageMark < d.count) &&
    (match c.failMark with
      | none => true
      | some m => decide (m < d.count))

/-! ### The seal -/

/-- One cavity's PART record is sealed into its reserved slot, and the counts of its lots fall (R119). -/
def sealPart (r : Recipe) (sh : Shot) (k : Fin 4) (c : Cavity) (s : State) : State :=
  match c.charge, c.sequence with
  | some h, some q => lowerRefs h.plies (sealReserved q (.part (partRecord s r sh k c h)) s)
  | _, _ => s

/-- Whether every enabled cavity of a shot is TAKEN or CLEARED (R119). -/
def Shot.allOut (sh : Shot) : Bool :=
  sh.enabled.all fun x => x.2.state == .taken || x.2.state == .cleared

/-- The seal of the press-side shot (R119). -/
def sealShot (r : Recipe) (sh : Shot) (s : State) : State :=
  let s1 := (heldCavities sh.enabled).foldl (fun st x => sealPart r sh x.1 x.2 st) s
  let s2 := endEject .sealed s1
  let s3 := entryFreed { s2 with dmi := { s2.dmi with demould := none }, shc := { s2.shc with press := none } }
  setNotice .trace (.shotRecords sh.number (sealSequences sh.enabled)) s3

/-- The seal at the event that leaves every enabled cavity TAKEN or CLEARED (R119, R145, R147). -/
def sealIfOut (s : State) : State :=
  match s.pressIn .opened, s.recipe with
  | some sh, some r => if sh.allOut then sealShot r sh s else s
  | _, _ => s

end Sys2Proof.Machine
end

