-- ==== Sys2Proof/Machine/Replies.lean ====
section
/-! DEFINITION. The layouts of the reading requests' replies (R180, R182, R183, R185 to R190), and of the recipe body. Each
is a function of the state at the moment the request is taken, and changes nothing. -/

namespace Sys2Proof.Machine

/-- An age, held at 65,535 if greater (R12). -/
def heldAge (now past : Nat) : Nat :=
  min 65535 (elapsed now past)

/-- The seconds from now to a deadline, 0 once it is reached (R86, R96, R149). -/
def secondsLeft (now deadline : Nat) : Nat :=
  deadline - now

/-! ### READ ZONES -/

/-- The fault cause (Table 11.1). -/
def FaultCause.code : FaultCause → Nat
  | .invalid _ => 0
  | .overTrip _ => 1

/-- The judged status or the temperature a fault cause keeps (R183, offset 10). -/
def FaultCause.seen : FaultCause → List Byte
  | .invalid j => be 2 j.code
  | .overTrip m => beInt 2 m

/-- The frames remaining as a reply carries them: 0 means continuous (R183, offset 16). -/
def Frames.code : Frames → Nat
  | .continuous => 0
  | .left n => n

/-- A zone entry of READ ZONES (R12, R183). -/
def State.zoneEntry (s : State) (z : Fin 12) : List Byte :=
  let c := s.msq.tc.get z
  let x := s.zct.zones.get z
  let h := s.hbo.shares.get z
  be 1 z.val
    ++ bits [c.lastOk.isSome, x.fault.isSome, x.frames.isSome]
    ++ beInt 2 c.value ++ be 1 (s.judged z).code ++ beOpt 2 (c.lastOk.map (heldAge s.clock))
    ++ be 1 x.mode.code ++ bits [x.ready, x.saturated, h.cut]
    ++ beOpt 1 (x.fault.map fun f => f.cause.code)
    ++ (match x.fault with | some f => f.cause.seen | none => be 2 0)
    ++ beOpt 4 (x.fault.map FaultInfo.since)
    ++ beOpt 1 (x.frames.map Frames.code)
    ++ be 2 x.setpoint ++ be 2 x.demand ++ beInt 2 x.integrator
    ++ be 1 h.rank ++ be 2 h.request ++ be 2 h.grant ++ be 2 h.onCount
    ++ be 2 (heldAge s.clock c.arrival)

/-- A load-cell entry of READ ZONES (R12, R183). -/
def State.cellEntry (s : State) (k : Fin 2) : List Byte :=
  let c := s.msq.lc.get k
  be 1 k.val ++ bits [c.lastOk.isSome] ++ beInt 3 c.raw ++ be 1 c.recorded.code
    ++ beOpt 2 (c.lastOk.map (heldAge s.clock)) ++ be 2 (heldAge s.clock c.arrival)

/-- The READ ZONES reply: twelve zone entries, then two load-cell entries (R12, R183). -/
def State.zonesReply (s : State) : List Byte :=
  (List.finRange 12).flatMap s.zoneEntry ++ (List.finRange 2).flatMap s.cellEntry

/-! ### STATUS -/

/-- The close outcome a port can show: the press port's (R177, R182). -/
def State.closeShown (s : State) (p : Port) : Option CloseOutcome :=
  if p = .press then s.ports.closeOutcome else none

/-- The open outcome a port can show: the press port's (R177, R182). -/
def State.openShown (s : State) (p : Port) : Option OpenOutcome :=
  if p = .press then s.ports.openOutcome else none

/-- The eject outcome a port can show: the press port's (R177, R182). -/
def State.ejectShown (s : State) (p : Port) : Option EjectOutcome :=
  if p = .press then s.ports.ejectOutcome else none

/-- The claim outcome a port can show: the handler port's (R177, R182). -/
def State.claimShown (s : State) (p : Port) : Option ClaimOutcome :=
  if p = .handler then s.ports.claimOutcome else none

/-- The STATUS reply of a port (R174, R182). -/
def State.statusReply (s : State) (p : Port) : List Byte :=
  let q := s.ports.get p
  be 4 s.clock
    ++ bits [s.shc.mounted.isSome, s.shc.assembling.isSome, s.shc.press.isSome, q.lastStatus.isSome,
      (s.closeShown p).isSome, (s.openShown p).isSome, (s.ejectShown p).isSome, (s.claimShown p).isSome]
    ++ bits [s.hrg.wallSet, s.zct.heatMode == .standby, s.hbo.throttle == .throttled, s.hbo.mains == .lost,
      s.dmi.claim.isSome, q.lost]
    ++ be 4 s.hbo.budget ++ be 4 s.hbo.totalRequest ++ be 2 s.hbo.frameLength
    ++ beOpt 1 (s.shc.mounted.map fun i => i.val)
    ++ beOpt 2 (s.recipe.map Recipe.mouldId) ++ beOpt 1 (s.recipe.map Recipe.revision)
    ++ beOpt 4 (s.shc.assembling.map Shot.number) ++ beOpt 4 (s.shc.press.map Shot.number)
    ++ beOpt 1 (s.shc.press.map fun sh => sh.phase.code)
    ++ be 1 s.dmi.holder.code ++ be 1 s.ltr.rack.length ++ be 2 s.available ++ be 4 s.newest
    ++ beOpt 1 (q.lastStatus.map Status.code) ++ be 1 q.turnaround ++ be 1 q.notices.length
    ++ beOpt 1 ((s.closeShown p).map CloseOutcome.code) ++ beOpt 1 ((s.openShown p).map OpenOutcome.code)
    ++ beOpt 1 ((s.ejectShown p).map EjectOutcome.code) ++ beOpt 1 ((s.claimShown p).map ClaimOutcome.code)
    ++ beOpt 1 ((s.closeShown p).bind CloseOutcome.named)

/-! ### READ QUEUE and READ LOTS -/

/-- The staged fields of a rack entry: cavity, reserved sequence and expired flag, 0 where the record is not STAGED
(R183, offsets 10 to 15). -/
def RackState.staging : RackState → List Byte
  | .queued => be 6 0
  | .expired => be 6 0
  | .staged cavity sequence late => be 1 cavity ++ be 4 sequence ++ mark late

/-- Whether a rack record is STAGED (R87). -/
def RackState.isStaged : RackState → Bool
  | .queued => false
  | .expired => false
  | .staged _ _ _ => true

/-- A rack entry of READ QUEUE (R96, R183). -/
def State.rackEntry (s : State) (r : RackRecord) : List Byte :=
  be 4 r.charge.id ++ be 1 r.position ++ be 1 r.charge.group ++ be 2 r.charge.total
    ++ be 1 r.state.code ++ bits [r.state.isStaged] ++ r.state.staging
    ++ be 4 r.charge.close ++ be 4 r.charge.outDeadline ++ be 4 (secondsLeft s.clock r.charge.outDeadline)
    ++ plyList r.charge.plies

/-- The READ QUEUE reply (R96). -/
def State.queueReply (s : State) : List Byte :=
  beList (s.ltr.rack.map s.rackEntry)

/-- A lot entry of READ LOTS (R86, R183). -/
def State.lotEntry (s : State) (l : Lot) : List Byte :=
  be 4 l.id ++ be 2 l.material ++ be 4 l.deadline ++ be 4 (secondsLeft s.clock l.deadline) ++ be 1 l.lastScale
    ++ be 4 (elapsed s.clock l.lastSeen) ++ be 2 l.refs ++ bits [(s.currentScale l.id).isSome]
    ++ beOpt 1 ((s.currentScale l.id).map fun k => k.val) ++ mark (s.armed l.id)

/-- The READ LOTS reply: the entry count in one byte and the aging period in two, then the entries (R86, R183). That the two
bytes are the period's alone is the model's reading: DESIGN CHOICE, log entry 31. -/
def State.lotsReply (s : State) : List Byte :=
  be 1 s.ltr.lots.length ++ be 2 s.ltr.agingPeriod ++ s.ltr.lots.flatMap s.lotEntry

/-! ### SCALE STATUS -/

/-- Whether a scale's tare is stale (R64). -/
def Scale.stale (k : Scale) (now : Nat) : Bool :=
  match k.tareTime with
  | none => true
  | some t => decide (k.validity * 60 < elapsed now t)

/-- Whether a scale is TARING or CAPTURING. -/
def Scale.settling (k : Scale) : Bool :=
  k.state == .taring || k.state == .capturing

/-- Whether SCALE STATUS shows the settle window: while the scale is TARING or CAPTURING (R76), and after the operation's end
while the window keeps its last contents (R59; log entry 20). -/
def Scale.showsWindow (k : Scale) : Bool :=
  k.settling || !k.window.isEmpty

/-- The seconds left to a scale's deadline, 0 where none runs (R76). -/
def Scale.secondsToDeadline (k : Scale) (now : Nat) : Nat :=
  secondsLeft now (k.deadline.getD 0)

/-- A session ply: the ply, then its capture time (R185). -/
def SessionPly.bytes (p : SessionPly) : List Byte :=
  p.ply.bytes ++ be 4 p.time

/-- The SCALE STATUS reply (R59, R76, R185). -/
def Scale.reply (k : Scale) (now : Nat) : List Byte :=
  let e := k.session
  be 1 k.state.code
    ++ bits [k.tareTime.isSome, k.currentLot.isSome, k.showsWindow, e.isSome, (e.bind Session.chargeId).isSome,
      (e.bind Session.cls).isSome, (e.bind Session.armedLot).isSome]
    ++ be 2 k.gain ++ be 2 k.band ++ be 1 k.count ++ be 1 k.timeout ++ be 2 k.minPly ++ be 1 k.validity
    ++ beInt 3 k.zero ++ beOpt 4 k.tareTime ++ beOpt 4 (k.tareTime.map (elapsed now)) ++ mark (k.stale now)
    ++ beOpt 4 k.currentLot
    ++ beInt 3 k.live.raw ++ be 2 k.live.weight ++ be 1 k.live.condition.code
    ++ (if k.showsWindow then be 1 k.window.length ++ be 1 k.steadyRun ++ be 2 (k.secondsToDeadline now) else be 4 0)
    ++ beOpt 1 (e.map Session.group) ++ beOpt 2 (e.map Session.target) ++ beOpt 2 (e.map Session.lowTol)
    ++ beOpt 2 (e.map Session.highTol) ++ beOpt 4 (e.bind Session.chargeId) ++ beOpt 2 (e.map Session.total)
    ++ beOpt 1 ((e.bind Session.cls).map ChargeClass.code) ++ beOpt 4 (e.bind Session.armedLot)
    ++ beList ((e.map Session.plies).getD [] |>.map SessionPly.bytes)

/-! ### Recipes -/

/-- The 114 bytes of a stored recipe (R186). -/
def Recipe.bytes (r : Recipe) : List Byte :=
  be 2 r.mouldId ++ be 1 r.revision ++ be 1 r.cavityCount
    ++ r.cavities.toList.flatMap (fun c => be 1 c.group) ++ r.cavities.toList.flatMap (fun c => be 2 c.mask.toNat)
    ++ r.groups.toList.flatMap (fun g => be 2 g.target ++ be 2 g.lowTol ++ be 2 g.highTol)
    ++ r.setpoints.toList.flatMap (be 2) ++ be 4 r.cureTarget ++ be 4 r.overCure
    ++ r.rates.toList.flatMap (fun b => beInt 2 b.temp ++ be 2 b.rate)
    ++ be 1 r.bumpCount ++ be 2 r.demouldWindow ++ be 2 r.outTime ++ be 2 r.loadMargin
    ++ be 1 r.takeLimit ++ be 2 r.blindLimit

/-- The READ RECIPE reply of a slot: its number, its state, the mounted mark, and the body, which reads as 0 for an EMPTY
slot (R100, R186). -/
def State.recipeReply (s : State) (i : Fin 8) : List Byte :=
  be 1 i.val
    ++ (match s.shc.recipes.get i with
        | some r => be 1 1 ++ mark (s.shc.mounted == some i) ++ r.bytes
        | none => be 1 0 ++ mark (s.shc.mounted == some i) ++ be 114 0)

/-! ### READ SHOTS and READ CURE -/

/-- A cavity entry of READ SHOTS (R121, R187). -/
def Cavity.shotEntry (k : Fin 4) (c : Cavity) (deadline : Option Nat) : List Byte :=
  be 1 k.val ++ be 1 c.state.code
    ++ bits [c.chargeId.isSome, c.sequence.isSome, c.part.isSome, deadline.isSome, c.attempts.isSome, c.cure.isSome]
    ++ beOpt 4 c.chargeId ++ beOpt 4 c.sequence ++ beOpt 4 c.part ++ beOpt 4 deadline
    ++ flagBits c.flags false false false ++ beOpt 1 c.attempts ++ beOpt 4 (c.cure.map Cure.index)

/-- The out-deadline a cavity holds: that of the charge passed to it at LOADED (R104, R121). -/
def Cavity.outDeadline (c : Cavity) : Option Nat :=
  c.charge.map Charge.outDeadline

/-- A shot entry of READ SHOTS (R121, R187). -/
def Shot.entry (sh : Shot) : List Byte :=
  let t := sh.times
  be 4 sh.number ++ be 1 sh.slot ++ be 2 sh.mouldId ++ be 1 sh.revision ++ be 1 sh.mask ++ be 1 sh.phase.code
    ++ be 1 sh.bumps
    ++ bits [t.armed.isSome, t.closeGrant.isSome, t.closing.isSome, t.cureStart.isSome, t.cured.isSome, t.opening.isSome]
    ++ beOpt 4 t.armed ++ beOpt 4 t.closeGrant ++ beOpt 4 t.closing ++ beOpt 4 t.cureStart ++ beOpt 4 t.cured
    ++ beOpt 4 t.opening
    ++ beList (sh.enabled.map fun x => x.2.shotEntry x.1 x.2.outDeadline)

/-- The shots of the table in order of shot number (R121). -/
def State.shotsInOrder (s : State) : List Shot :=
  match s.shc.press, s.shc.assembling with
  | none, none => []
  | some a, none => [a]
  | none, some b => [b]
  | some a, some b => if a.number ≤ b.number then [a, b] else [b, a]

/-- The held requests of the press port as READ SHOTS carries them (R121, R187). -/
def State.heldRequests (s : State) : List Byte :=
  bits [s.shc.heldClose.isSome, s.shc.heldOpen.isSome]
    ++ (match s.shc.heldClose with
        | some h => be 4 h.shot ++ be 4 h.since ++ s.holdFields
        | none => be 12 0)
    ++ beOpt 4 s.shc.heldOpen

/-- The READ SHOTS reply (R121, R187). -/
def State.shotsReply (s : State) : List Byte :=
  beList (s.shotsInOrder.map Shot.entry) ++ s.heldRequests

/-- A cavity entry of READ CURE (R133, R188). -/
def Cure.entry (k : Fin 4) (st : CavityState) (c : Cure) : List Byte :=
  be 1 k.val ++ be 1 st.code ++ bits [c.minT.isSome, c.maxT.isSome, c.last.isSome] ++ mark c.accounting
    ++ be 4 c.index ++ be 4 c.seconds ++ beOptInt 2 c.minT ++ beOptInt 2 c.maxT ++ be 2 c.blind ++ be 2 c.throttled
    ++ beOptInt 2 (c.last.map Prod.fst) ++ beOpt 2 (c.last.map Prod.snd)

/-- The cavities of a shot that hold cure fields, in ascending order (R123). -/
def Shot.curing (sh : Shot) : List (Fin 4 × CavityState × Cure) :=
  sh.enabled.filterMap fun x => x.2.cure.map fun c => (x.1, x.2.state, c)

/-- The READ CURE reply (R133, R188). -/
def State.cureReply (s : State) : List Byte :=
  match s.shc.press, s.recipe with
  | some sh, some r =>
    if sh.curing.isEmpty then be 1 0
    else
      be 1 sh.curing.length ++ be 4 sh.number ++ be 1 sh.phase.code
        ++ be 4 r.cureTarget ++ be 4 r.overCure ++ be 2 r.blindLimit
        ++ sh.curing.flatMap fun x => x.2.2.entry x.1 x.2.1
  | _, _ => be 1 0

/-! ### READ DEMOULD -/

/-- A cavity entry of READ DEMOULD (R149, R189). -/
def Demould.cavityEntry (d : Demould) (k : Fin 4) (c : Cavity) : List Byte :=
  be 1 k.val ++ be 1 c.state.code
    ++ bits [c.failMark.isSome, c.takeTime.isSome, c.latency.isSome, c.clear.isSome]
    ++ beOpt 1 c.attempts ++ beOpt 2 c.failMark ++ beOpt 4 c.takeTime ++ beOpt 4 c.latency
    ++ beOpt 1 (c.clear.map ClearDisposition.code) ++ mark (d.readyToReport c)

/-- The READ DEMOULD reply (R149, R189). -/
def State.demouldReply (s : State) : List Byte :=
  be 1 s.dmi.holder.code
    ++ (match s.dmi.demould, s.pressIn .opened with
        | some d, some sh =>
          bits [s.dmi.claim.isSome, true] ++ beOpt 4 s.dmi.claim
            ++ be 4 sh.number ++ mark d.engaged ++ mark d.grant ++ mark d.heldEject ++ be 2 d.count ++ be 2 d.engageMark
            ++ be 4 d.deadline ++ be 2 (secondsLeft s.clock d.deadline) ++ mark d.lateGiven
            ++ beList (sh.enabled.map fun x => d.cavityEntry x.1 x.2)
        | _, _ => bits [s.dmi.claim.isSome, false] ++ beOpt 4 s.dmi.claim ++ be 18 0 ++ be 1 0)

/-! ### READ NOTICES -/

/-- The READ NOTICES reply for the notices returned, the number left, and the lost mark (R173, R190). -/
def noticesReply (returned : List Notice) (left : Nat) (lost : Bool) : List Byte :=
  be 1 returned.length ++ be 1 left ++ mark lost ++ returned.flatMap Notice.entry

end Sys2Proof.Machine
end

