-- ==== Sys2Proof/Machine/Samples.lean ====
section
/-! DEFINITION. What a scale unit does with a sample: weight and condition (R57, R58), the settle window (R59), settling
(R60), and the ends of a tare and of a capture (R62, R63, R68 to R71). -/

namespace Sys2Proof.Machine

/-- A sample as it is delivered to a scale unit (4.3): with its count, or NO_REPLY with none. -/
inductive Arrival where
  | ok (raw : Int)
  | overrange (raw : Int)
  | noReply
  deriving DecidableEq, Repr

/-- The count a sample carries. -/
def Arrival.raw : Arrival → Option Int
  | .ok r => some r
  | .overrange r => some r
  | .noReply => none

/-! ### Weight -/

/-- The unclamped weight of a difference of counts under a gain, rounded alike on both sides (R57, steps 1 to 3). -/
def weightOf (d : Int) (gain : Nat) : Int :=
  if 0 ≤ d then (d * gain + 32768) / 65536 else -((-d * gain + 32768) / 65536)

/-- The weight and condition of an unclamped weight of a sample with status OK (R57). -/
def weighed (w : Int) : Nat × Condition :=
  if 65535 < w then (65535, .overload) else if w < 0 then (0, .under) else (w.toNat, .ok)

/-- The weight and condition of a sample against the tare zero (R57). -/
def Scale.reading (k : Scale) : Arrival → Nat × Condition
  | .ok raw => weighed (weightOf (raw - k.zero) k.gain)
  | .overrange _ => (65535, .overload)
  | .noReply => (0, .noReply)

/-- The scale with its live reading replaced by a sample (R57). -/
def Scale.observe (k : Scale) (a : Arrival) : Scale :=
  { k with live := { raw := a.raw.getD k.live.raw, weight := (k.reading a).1, condition := (k.reading a).2 } }

/-- The reference count after a sample in TARING: the raw count of the first sample with status OK (R58). -/
def Scale.withReference (k : Scale) (a : Arrival) : Scale :=
  match k.reference, a with
  | none, .ok raw => { k with reference := some raw }
  | _, _ => k

/-- The window entry of a sample in TARING, measured from the reference count (R58, R59). -/
def Scale.tareEntry (k : Scale) : Arrival → Sample
  | .ok raw =>
    let w := weightOf (raw - k.reference.getD raw) k.gain
    { raw := some raw, weight := some w, usable := decide (w.natAbs ≤ 65535) }
  | .overrange raw => { raw := some raw, weight := none, usable := false }
  | .noReply => { raw := none, weight := none, usable := false }

/-- The window entry of a sample in CAPTURING (R57, R59). -/
def Scale.captureEntry (k : Scale) (a : Arrival) : Sample :=
  { raw := a.raw, weight := some (k.reading a).1
    usable := (k.reading a).2 == .ok || (k.reading a).2 == .under }

/-! ### The settle window -/

/-- The greatest of a list of weights less the least; 0 for no weights (R60). -/
def spread : List Int → Int
  | [] => 0
  | w :: rest => rest.foldl max w - rest.foldl min w

/-- Whether the newest sample of a window is steady under a settle band (R60). -/
def steady (window : List Sample) (band : Nat) : Bool :=
  decide (window.length = 8) && window.all (fun e => e.usable) && decide (spread (window.filterMap fun e => e.weight) ≤ band)

/-- The window with a new entry; of nine, the oldest leaves (R59). -/
def pushSample (window : List Sample) (e : Sample) : List Sample :=
  if window.length < 8 then window ++ [e] else window.tail ++ [e]

/-- The scale with a sample joined to its window and its steady run counted (R59, R60). -/
def Scale.joinWindow (k : Scale) (e : Sample) : Scale :=
  let w := pushSample k.window e
  { k with window := w, steadyRun := if steady w k.band then k.steadyRun + 1 else 0 }

/-- Whether the scale has settled at the sample just joined (R60). -/
def Scale.settled (k : Scale) : Bool :=
  steady k.window k.band && decide (k.count ≤ k.steadyRun)

/-- The rounded mean of eight figures: their sum plus 4, divided by 8 and rounded down (R60, R62). -/
def mean8 (xs : List Int) : Int :=
  (xs.sum + 4) / 8

/-- The settled value of a capture (R60). -/
def Scale.settledValue (k : Scale) : Nat :=
  (mean8 (k.window.filterMap fun e => e.weight)).toNat

/-- The new tare zero of a settled tare (R62). -/
def Scale.newZero (k : Scale) : Int :=
  mean8 (k.window.filterMap fun e => e.raw)

/-! ### The end of a tare -/

/-- A scale that has left TARING. -/
def Scale.leaveTaring (k : Scale) : Scale :=
  { k with state := .idle, deadline := none, reference := none }

/-- A tare settles (R62). -/
def settleTare (k : Fin 2) (s : State) : State :=
  let sc := s.scales.get k
  setNotice .charge (.settledTare k.val sc.newZero)
    (s.modifyScale k fun x => { x.leaveTaring with zero := x.newZero, tareTime := some s.clock })

/-- Whether a taring scale's deadline has been reached (R63). -/
def State.tareDue (s : State) (k : Fin 2) : Bool :=
  (s.scales.get k).state == .taring && (s.scales.get k).deadline.any fun t => decide (t ≤ s.clock)

/-- A tare times out where its deadline has been reached (R63). -/
def timeoutTare (k : Fin 2) (s : State) : State :=
  if s.tareDue k then setNotice .charge (.settleTimeout k.val .tare) (s.modifyScale k Scale.leaveTaring) else s

/-! ### The end of a capture -/

/-- The class of a total against a session's target and tolerances (R70). -/
def Session.classOf (e : Session) (total : Nat) : ChargeClass :=
  if (total : Int) < (e.target : Int) - e.lowTol then .low
  else if e.target + e.highTol < total then .high
  else .accept

/-- A scale that has left CAPTURING for OPEN, its session as given without the armed lot. -/
def Scale.leaveCapturing (k : Scale) (e : Session) : Scale :=
  { k with state := .opened, deadline := none, session := some { e with armedLot := none } }

/-- A capture ends without a ply: the scale is OPEN again and its armed lot released (R68, R71, R72). -/
def endCapture (k : Fin 2) (e : Session) (s : State) : State :=
  releaseLot? e.armedLot (s.modifyScale k fun x => x.leaveCapturing e)

/-- The charge ID a ply's session has, and the charge counter after it is issued if it has none yet (R69). -/
def issueCharge (e : Session) (s : State) : Nat × State :=
  match e.chargeId with
  | some i => (i, s)
  | none =>
    let f := fitWord (s.shc.chargeCounter + 1) s
    (s.shc.chargeCounter, { f.2 with shc := { f.2.shc with chargeCounter := f.1 } })

/-- A session with one ply more (R68, steps 1, 2, 4 and 5). -/
def Session.withPly (e : Session) (p : SessionPly) (total chargeId : Nat) : Session :=
  { e with plies := e.plies ++ [p], total := total, chargeId := some chargeId, cls := some (e.classOf total) }

/-- A capture ends with a ply (R68). -/
def capturePly (k : Fin 2) (e : Session) (value : Nat) (s : State) : State :=
  let lot := e.armedLot.getD 0
  let weight := value - e.total
  let c := issueCharge e (raiseRef lot s)
  let e' := e.withPly ⟨⟨weight, lot⟩, s.clock⟩ value c.1
  setNotice .charge (.settledPly k.val c.1 e'.plies.length ⟨weight, lot⟩ value (e.classOf value))
    (endCapture k { e' with armedLot := some lot } c.2)

/-- A capture settles at a value: with a ply, or too light (R68). -/
def settleCapture (k : Fin 2) (s : State) : State :=
  let sc := s.scales.get k
  match sc.session with
  | none => s
  | some e =>
    let diff : Int := sc.settledValue - e.total
    if diff < sc.minPly then setNotice .charge (.plyTooLight k.val diff) (endCapture k e s)
    else capturePly k e sc.settledValue s

/-- Whether a capturing scale's deadline has been reached (R71). -/
def State.captureDue (s : State) (k : Fin 2) : Bool :=
  (s.scales.get k).state == .capturing && (s.scales.get k).deadline.any fun t => decide (t ≤ s.clock)

/-- A capture times out where its deadline has been reached (R71). -/
def timeoutCapture (k : Fin 2) (s : State) : State :=
  match (s.scales.get k).session with
  | none => s
  | some e =>
    if s.captureDue k then setNotice .charge (.settleTimeout k.val .ply) (endCapture k e s) else s

/-! ### A sample -/

/-- A sample is delivered to a scale unit: it replaces the live reading, and in TARING or CAPTURING joins the window, which
may settle (R57 to R62, R68). -/
def deliver (k : Fin 2) (a : Arrival) (s : State) : State :=
  match (s.scales.get k).state with
  | .idle => s.modifyScale k fun x => x.observe a
  | .opened => s.modifyScale k fun x => x.observe a
  | .taring =>
    let s1 := s.modifyScale k fun x =>
      let y := (x.observe a).withReference a
      y.joinWindow (y.tareEntry a)
    if (s1.scales.get k).settled then settleTare k s1 else s1
  | .capturing =>
    let s1 := s.modifyScale k fun x => (x.observe a).joinWindow (x.captureEntry a)
    if (s1.scales.get k).settled then settleCapture k s1 else s1

end Sys2Proof.Machine
end

