-- ==== Sys2Proof/Machine/Channels.lean ====
section
/-! DEFINITION. The measurement sequencer: results, expiries and unusable replies of the two converters, READ ZONES and
MEASURE SETUP (R1 to R12); and the pin reset of the whole part. -/

namespace Sys2Proof.Machine

/-! ### The reset line -/

/-- The meaning of a pin reset: every block as its chapter gives it after pin reset. What waits in the queue, and the count
of free values used, are the model's own and stay. -/
def execPinReset (s : State) : Host.Outcome State Fault Refusal :=
  .next { State.reset with freeCount := s.freeCount, pending := s.pending }

/-! ### The conversion cycle -/

/-- The channel after `c` in a scan of `n` channels (R3, R4). -/
def nextChannel (n c : Nat) : Nat :=
  if c + 1 < n then c + 1 else 0

/-- The thermocouple converter starts the next conversion in turn (R3). -/
def startTc (s : State) : State :=
  match s.msq.tcConv with
  | none => s
  | some c => { s with msq := { s.msq with tcConv := some ⟨nextChannel 12 c.channel, s.clock⟩ } }

/-- The load-cell converter starts the next conversion in turn (R4). -/
def startLc (s : State) : State :=
  match s.msq.lcConv with
  | none => s
  | some c => { s with msq := { s.msq with lcConv := some ⟨nextChannel 2 c.channel, s.clock⟩ } }

/-- The channel of the thermocouple converter's outstanding conversion. -/
def State.tcOutstanding (s : State) : Option (Fin 12) :=
  s.msq.tcConv.bind fun c => if h : c.channel < 12 then some ⟨c.channel, h⟩ else none

/-- The channel of the load-cell converter's outstanding conversion. -/
def State.lcOutstanding (s : State) : Option (Fin 2) :=
  s.msq.lcConv.bind fun c => if h : c.channel < 2 then some ⟨c.channel, h⟩ else none

/-- A thermocouple channel's record changed. -/
def State.modifyTc (s : State) (c : Fin 12) (f : TcChannel → TcChannel) : State :=
  { s with msq := { s.msq with tc := s.msq.tc.modify c f } }

/-- A load-cell channel's record changed. -/
def State.modifyLc (s : State) (c : Fin 2) (f : LcChannel → LcChannel) : State :=
  { s with msq := { s.msq with lc := s.msq.lc.modify c f } }

/-- A thermocouple channel's record after an acceptable result (R5). -/
def TcChannel.take (c : TcChannel) (now : Nat) (value : Int) : TcResult → TcChannel
  | .ok => { value := value, recorded := .ok, arrival := now, lastOk := some now, everOk := true }
  | .open_ => { c with recorded := .open_, arrival := now }
  | .range => { c with recorded := .range, arrival := now }

/-- A thermocouple channel's record after an expiry (R7). -/
def TcChannel.expire (c : TcChannel) (now : Nat) : TcChannel :=
  { c with recorded := .noReply, arrival := now }

/-- A load-cell channel's record after an acceptable result (R6). -/
def LcChannel.take (c : LcChannel) (now : Nat) (count : Int) : LcResult → LcChannel
  | .ok => { raw := count, recorded := .ok, arrival := now, lastOk := some now }
  | .overrange => { c with recorded := .overrange, arrival := now }

/-- A load-cell channel's record after an expiry (R7). -/
def LcChannel.expire (c : LcChannel) (now : Nat) : LcChannel :=
  { c with recorded := .noReply, arrival := now }

/-- The sample of an acceptable load-cell result (R6). -/
def sampleOf (count : Int) : LcResult → Arrival
  | .ok => .ok count
  | .overrange => .overrange count

/-! ### Arrivals and expiries -/

/-- A thermocouple result frame with an agreeing check byte arrives: for the outstanding channel it is taken (R5); for any
other it completes the conversion with no result (R8, case 3); with none outstanding it is dropped (R8, case 4). -/
def arriveTc (channel : Nat) (st : TcResult) (value : Int) (s : State) : State :=
  match s.tcOutstanding with
  | none => startTc s
  | some c => if channel = c.val then startTc (s.modifyTc c fun r => r.take s.clock value st) else startTc s

/-- A load-cell result frame with an agreeing check byte arrives: for the outstanding channel its record is updated and the
sample delivered (R6); for the other it completes the conversion with no result (R8, case 3). -/
def arriveLc (channel : Nat) (st : LcResult) (count : Int) (s : State) : State :=
  match s.lcOutstanding with
  | none => startLc s
  | some c =>
    if channel = c.val then
      startLc (deliver c (sampleOf count st) (s.modifyLc c fun r => r.take s.clock count st))
    else startLc s

/-- The reply limit of a converter's outstanding conversion runs out (R7). -/
def expireConversion (link : Converter) (s : State) : State :=
  match link with
  | .thermocouple =>
    match s.tcOutstanding with
    | none => startTc s
    | some c => startTc (s.modifyTc c fun r => r.expire s.clock)
  | .loadCell =>
    match s.lcOutstanding with
    | none => startLc s
    | some c => startLc (deliver c .noReply (s.modifyLc c fun r => r.expire s.clock))

/-- A reply the part cannot take: in the first three cases of R8 the conversion completes with no result; in the fourth the
reply is dropped. -/
def unusable (link : Converter) (why : Unusable) (s : State) : State :=
  match why with
  | .noConversion => s
  | .badCheck | .badStatus | .wrongChannel =>
    match link with
    | .thermocouple => startTc s
    | .loadCell => startLc s

/-- The meaning of an acceptable thermocouple result (R5). -/
def execThermocoupleResult (channel : Byte) (st : TcResult) (value : BitVec 16) (s : State) :
    Host.Outcome State Fault Refusal :=
  .next (arriveTc channel.toNat st value.toInt s)

/-- The meaning of an acceptable load-cell result (R6). -/
def execLoadCellResult (channel : Byte) (st : LcResult) (count : BitVec 24) (s : State) :
    Host.Outcome State Fault Refusal :=
  .next (arriveLc channel.toNat st count.toInt s)

/-- The meaning of a reply limit running out (R7). -/
def execReplyLimitExpiry (link : Converter) (s : State) : Host.Outcome State Fault Refusal :=
  .next (expireConversion link s)

/-- The meaning of a reply the part cannot take (R8). -/
def execUnusableReply (link : Converter) (why : Unusable) (s : State) : Host.Outcome State Fault Refusal :=
  .next (unusable link why s)

/-! ### Requests -/

/-- READ ZONES (R12). -/
def readZones (s : State) : State × Answer :=
  (s, ⟨.ok, s.zonesReply⟩)

/-- The meaning of READ ZONES (R12). -/
def execReadZones (p : Port) (s : State) : Host.Outcome State Fault Refusal :=
  .next (transact p .readZones readZones s)

/-- MEASURE SETUP (R10). -/
def measureSetup (limit : BitVec 8) (s : State) : State × Answer :=
  let v := clampNat 1 10 limit.toNat
  ({ s with msq := { s.msq with staleLimit := v } }, ⟨setupStatus (v ≠ limit.toNat), be 1 v⟩)

/-- The meaning of MEASURE SETUP (R10). -/
def execMeasureSetup (p : Port) (limit : BitVec 8) (s : State) : Host.Outcome State Fault Refusal :=
  .next (transact p .measureSetup (measureSetup limit) s)

end Sys2Proof.Machine
end

