-- ==== Sys2Proof/Machine/Zones.lean ====
section
/-! DEFINITION. The zone controllers: their requests (R15 to R22), the heat mode (R29 to R33), and the stages of the zone's
own work at a frame boundary (R18 to R27). -/

namespace Sys2Proof.Machine

/-! ### Changing a zone -/

/-- One zone's record changed. -/
def State.modifyZone (s : State) (z : Fin 12) (f : Zone → Zone) : State :=
  { s with zct := { s.zct with zones := s.zct.zones.modify z f } }

/-! ### Requests -/

/-- A setup record with each value taken to the nearer limit of its range (R15). -/
def clampSetup (power bias band gain idle trip : BitVec 16) : ZoneSetup :=
  { power := clampNat 100 20000 power.toNat
    bias := clampNat 0 1000 bias.toNat
    band := clampNat 10 2000 band.toNat
    gain := clampNat 0 1000 gain.toNat
    idle := clampSigned 0 2500 idle.toInt
    trip := clampSigned 500 3000 trip.toInt }

/-- Whether a setup record is other than the operands it was made from (R15). -/
def setupClamped (u : ZoneSetup) (power bias band gain idle trip : BitVec 16) : Bool :=
  decide (u.power ≠ power.toNat) || decide (u.bias ≠ bias.toNat) || decide (u.band ≠ band.toNat)
    || decide (u.gain ≠ gain.toNat) || decide ((u.idle : Int) ≠ idle.toInt) || decide ((u.trip : Int) ≠ trip.toInt)

/-- A setup record as a reply carries it (R15, R180). -/
def ZoneSetup.bytes (u : ZoneSetup) : List Byte :=
  be 2 u.power ++ be 2 u.bias ++ be 2 u.band ++ be 2 u.gain ++ be 2 u.idle ++ be 2 u.trip

/-- ZONE SETUP (R15, R17). -/
def zoneSetup (zone : BitVec 8) (power bias band gain idle trip : BitVec 16) (s : State) : State × Answer :=
  match inRange 12 zone with
  | none => (s, .bare .badArgument)
  | some z =>
    let u := clampSetup power bias band gain idle trip
    (deriveZone z (s.modifyZone z fun x => { x with pendingSetup := some u }),
      ⟨setupStatus (setupClamped u power bias band gain idle trip), u.bytes⟩)

/-- The meaning of ZONE SETUP (R15). -/
def execZoneSetup (p : Port) (zone : BitVec 8) (power bias band gain idle trip : BitVec 16) (s : State) :
    Host.Outcome State Fault Refusal :=
  .next (transact p .zoneSetup (zoneSetup zone power bias band gain idle trip) s)

/-- HEAT SETUP (R16). -/
def heatSetup (band : BitVec 16) (delay : BitVec 8) (setback : BitVec 16) (s : State) : State × Answer :=
  let b := clampNat 10 200 band.toNat
  let d := clampNat 0 120 delay.toNat
  let k := clampNat 0 1000 setback.toNat
  let s1 := { s with zct := { s.zct with readyBand := b, standbyDelay := d, setback := k } }
  (if s.zct.heatMode = .standby then deriveAll s1 else s1,
    ⟨setupStatus (b ≠ band.toNat || d ≠ delay.toNat || k ≠ setback.toNat), be 2 b ++ be 1 d ++ be 2 k⟩)

/-- The meaning of HEAT SETUP (R16). -/
def execHeatSetup (p : Port) (band : BitVec 16) (delay : BitVec 8) (setback : BitVec 16) (s : State) :
    Host.Outcome State Fault Refusal :=
  .next (transact p .heatSetup (heatSetup band delay setback) s)

/-- The mode change a ZONE MODE asks for; none for a mode that is not OFF, AUTO or MANUAL (R19). -/
def modeChange (mode : BitVec 8) (demand : BitVec 16) (frames : BitVec 8) : Option ModeChange :=
  match mode.toNat with
  | 0 => some .off
  | 1 => some .auto
  | 2 => some (.manual (min 1000 demand.toNat) (if frames = 0 then .continuous else .left frames.toNat))
  | _ => none

/-- Whether a ZONE MODE's demand was clamped: with MANUAL only (R19). -/
def demandClamped (mode : BitVec 8) (demand : BitVec 16) : Bool :=
  mode == 2 && decide (1000 < demand.toNat)

/-- ZONE MODE (R19). -/
def zoneMode (zone mode : BitVec 8) (demand : BitVec 16) (frames : BitVec 8) (s : State) : State × Answer :=
  match inRange 12 zone, modeChange mode demand frames with
  | some z, some m =>
    if (s.zct.zones.get z).mode = .fault then (s, .bare .zoneFault)
    else (s.modifyZone z fun x => { x with pendingMode := some m }, .bare (setupStatus (demandClamped mode demand)))
  | _, _ => (s, .bare .badArgument)

/-- The meaning of ZONE MODE (R19). -/
def execZoneMode (p : Port) (zone mode : BitVec 8) (demand : BitVec 16) (frames : BitVec 8) (s : State) :
    Host.Outcome State Fault Refusal :=
  .next (transact p .zoneMode (zoneMode zone mode demand frames) s)

/-- Whether a zone's channel now allows its fault to be cleared (R22). -/
def State.clearable (s : State) (z : Fin 12) : Bool :=
  s.judged z == .ok && decide ((s.msq.tc.get z).value ≤ ((s.zct.zones.get z).active.trip : Int))

/-- The zone with its clear accepted (R22). -/
def Zone.acceptClear (x : Zone) : Zone :=
  { x with fault := x.fault.map fun f => { f with clearAccepted := true } }

/-- Whether a clear of the zone's fault has already been accepted (R14). -/
def Zone.cleared (x : Zone) : Bool :=
  x.fault.any fun f => f.clearAccepted

/-- CLEAR ZONE FAULT (R22). -/
def clearZoneFault (zone : BitVec 8) (s : State) : State × Answer :=
  match inRange 12 zone with
  | none => (s, .bare .badArgument)
  | some z =>
    if (s.zct.zones.get z).mode ≠ .fault then (s, .bare .badState)
    else if (s.zct.zones.get z).cleared then (s, .bare .ok)
    else if s.clearable z then (s.modifyZone z Zone.acceptClear, .bare .ok)
    else (s, .bare .zoneFault)

/-- The meaning of CLEAR ZONE FAULT (R22). -/
def execClearZoneFault (p : Port) (zone : BitVec 8) (s : State) : Host.Outcome State Fault Refusal :=
  .next (transact p .clearZoneFault (clearZoneFault zone) s)

/-- STANDBY NOW (R30). -/
def standbyNow (s : State) : State × Answer :=
  if !s.tableEmpty then (s, .bare .badState)
  else
    match s.zct.heatMode with
    | .standby => (s, .bare .ok)
    | .production => (enterStandby s, .bare .ok)

/-- The meaning of STANDBY NOW (R30). -/
def execStandbyNow (p : Port) (s : State) : Host.Outcome State Fault Refusal :=
  .next (transact p .standbyNow standbyNow s)

/-- WAKE (R31). -/
def wake (s : State) : State × Answer :=
  match s.zct.heatMode with
  | .standby => (enterProduction (if s.tableEmpty then some s.clock else none) s, .bare .ok)
  | .production =>
    if s.tableEmpty then ({ s with zct := { s.zct with emptySince := some s.clock } }, .bare .ok) else (s, .bare .ok)

/-- The meaning of WAKE (R31). -/
def execWake (p : Port) (s : State) : Host.Outcome State Fault Refusal :=
  .next (transact p .wake wake s)

/-- Whether the standby wait has run out: in PRODUCTION with the shot table empty, under the delay the last step of the run
clock found and the delay now held (R16, R29; log entry 8). -/
def State.standbyDue (s : State) : Bool :=
  s.zct.heatMode == .production && s.tableEmpty && s.waitOver s.zct.stepDelay && s.waitOver s.zct.standbyDelay

/-- The standby wait's end, where it has run out (R29, R30). -/
def endStandbyWait (s : State) : State :=
  if s.standbyDue then enterStandby s else s

/-- The meaning of the standby wait's end (R29). -/
def execStandbyWaitEnd (s : State) : Host.Outcome State Fault Refusal :=
  .next (endStandbyWait s)

/-! ### The boundary at a zone -/

/-- Stage 1: a pending setup becomes active (R18). -/
def Zone.takeSetup (x : Zone) : Zone :=
  match x.pendingSetup with
  | some u => { x with active := u, pendingSetup := none }
  | none => x

/-- Stage 2: the manual count (R18, R20). -/
def Zone.countManual (x : Zone) : Zone :=
  match x.mode, x.pendingMode, x.frames with
  | .manual, none, some (.left n) =>
    if n ≤ 1 then { x with mode := .auto, frames := none } else { x with frames := some (.left (n - 1)) }
  | _, _, _ => x

/-- A pending mode change takes effect (R19). -/
def Zone.change (x : Zone) : ModeChange → Zone
  | .off => { x with mode := .off, integrator := 0, invalidCount := 0, frames := none }
  | .auto => { x with mode := .auto, frames := none }
  | .manual d n => { x with mode := .manual, manualDemand := d, frames := some n }

/-- A zone whose clear has been accepted leaves FAULT (R22). -/
def Zone.leaveFault (x : Zone) (f : FaultInfo) : Zone :=
  match f.preFault with
  | .auto => { x with mode := .auto, frames := none, integrator := 0, fault := none }
  | .manual n => { x with mode := .manual, frames := some n, integrator := 0, fault := none }

/-- Stage 3: a pending mode change, or the return of an accepted clear (R18, R19, R22). -/
def Zone.takeMode (x : Zone) : Zone :=
  let y :=
    match x.pendingMode with
    | some m => { x.change m with pendingMode := none }
    | none => x
  match y.mode, y.fault with
  | .fault, some f => if f.clearAccepted then y.leaveFault f else y
  | _, _ => y

/-- Stage 4: the pending setpoint becomes active (R18). -/
def Zone.takeSetpoint (x : Zone) : Zone :=
  { x with setpoint := x.pendingSetpoint }

/-- Stages 1 to 4 (R18). -/
def Zone.settle (x : Zone) : Zone :=
  x.takeSetup.countManual.takeMode.takeSetpoint

/-- The pre-fault mode of a zone entering FAULT (R21). -/
def Zone.preFault (x : Zone) : PreFault :=
  match x.mode with
  | .manual => .manual (x.frames.getD .continuous)
  | .off => .auto
  | .auto => .auto
  | .fault => .auto

/-- Entry into FAULT (R21). -/
def Zone.enterFault (x : Zone) (cause : FaultCause) (now : Nat) : Zone :=
  { x with
    mode := .fault, frames := none, invalidCount := 0
    fault := some { preFault := x.preFault, cause := cause, since := now, clearAccepted := false } }

/-- The watch of a zone in AUTO or MANUAL: the zone after it, for a judged status and a measured temperature (R21). -/
def Zone.watched (x : Zone) (j : Judged) (m : Int) (now : Nat) : Zone :=
  match j with
  | .ok => if (x.active.trip : Int) < m then x.enterFault (.overTrip m) now else { x with invalidCount := 0 }
  | .open_ | .range | .noReply | .stale =>
    if x.invalidCount = 0 then { x with invalidCount := 1 } else x.enterFault (.invalid j) now

/-- Stage 6: the fault watch, in AUTO or MANUAL only (R18, R21). -/
def Zone.watch (x : Zone) (j : Judged) (m : Int) (now : Nat) : Zone :=
  match x.mode with
  | .auto => x.watched j m now
  | .manual => x.watched j m now
  | .off => x
  | .fault => x

/-- The error of an AUTO zone, held to 5000 either way (R23, step 1). -/
def Zone.error (x : Zone) (m : Int) : Int :=
  max (-5000) (min 5000 ((x.setpoint : Int) - m))

/-- The raw demand of an AUTO zone (R23, steps 2 and 3). -/
def Zone.rawDemand (x : Zone) (m : Int) : Int :=
  (x.active.bias : Int) + (x.error m * 1000).tdiv x.active.band + x.integrator

/-- A raw demand held to 0 to 1000 (R23, step 4). -/
def clampDemand (raw : Int) : Nat :=
  (max 0 (min 1000 raw)).toNat

/-- The zone with a demand and its saturated mark. -/
def Zone.withDemand (x : Zone) (d : Nat) (sat : Bool) : Zone :=
  { x with demand := d, saturated := sat }

/-- Stage 7: the demand for the mode the zone now holds (R18, R23 to R25). -/
def Zone.computeDemand (x : Zone) (j : Judged) (m : Int) : Zone :=
  match x.mode with
  | .off => x.withDemand 0 false
  | .fault => x.withDemand 0 false
  | .manual => x.withDemand x.manualDemand false
  | .auto =>
    if j = .ok then x.withDemand (clampDemand (x.rawDemand m)) (decide ((clampDemand (x.rawDemand m) : Int) ≠ x.rawDemand m))
    else x.withDemand 0 false

/-- Whether a zone is READY at a boundary (R27). The boundary asks it of the zone as the watch leaves it, so a zone that enters
FAULT is not READY (R21), though R27 names the mode after the mode stage, before the watch: DESIGN CHOICE, log entry 33. -/
def Zone.isReady (x : Zone) (j : Judged) (m : Int) (band : Nat) : Bool :=
  (x.mode == .auto || x.mode == .manual) && j == .ok && decide (((x.setpoint : Int) - m).natAbs ≤ band)

/-- Stage 8: the READY mark (R18, R27). -/
def Zone.markReady (x : Zone) (j : Judged) (m : Int) (band : Nat) : Zone :=
  { x with ready := x.isReady j m band }

/-- Stages 1 to 8 of a zone's work at a boundary (R18). -/
def Zone.boundary (x : Zone) (j : Judged) (m : Int) (band now : Nat) : Zone :=
  ((x.settle.watch j m now).computeDemand j m).markReady j m band

/-- Stage 10: the integrator, with the cut mark HBO has returned (R18, R26). -/
def Zone.integrate (x : Zone) (j : Judged) (m : Int) (cut : Bool) : Zone :=
  if x.mode = .auto ∧ j = .ok ∧ x.saturated = false ∧ cut = false then
    { x with integrator := max (-200) (min 1000 (x.integrator + (x.error m * x.active.gain).tdiv 1000)) }
  else x

end Sys2Proof.Machine
end

