-- ==== Sys2Proof/Machine/Burst.lean ====
section
/-! DEFINITION. Heat budget and burst output: BUDGET SETUP and SET CURTAIL (R37, R38), the allocation, the throttle decision
and the windows of a boundary (R39 to R47), the whole boundary as one step (R18, R39), and the zero-cross input (R48 to
R51). -/

namespace Sys2Proof.Machine

/-! ### Requests -/

/-- BUDGET SETUP (R37). -/
def budgetSetup (base : BitVec 32) (hysteresis frameLength : BitVec 16) (s : State) : State × Answer :=
  let b := clampNat 0 200000 base.toNat
  let h := clampNat 0 500 hysteresis.toNat
  let n := clampNat 20 400 frameLength.toNat
  ({ s with hbo := { s.hbo with baseBudget := b, hysteresis := h, requestedLength := n } },
    ⟨setupStatus (b ≠ base.toNat || h ≠ hysteresis.toNat || n ≠ frameLength.toNat), be 4 b ++ be 2 h ++ be 2 n⟩)

/-- The meaning of BUDGET SETUP (R37). -/
def execBudgetSetup (p : Port) (base : BitVec 32) (hysteresis frameLength : BitVec 16) (s : State) :
    Host.Outcome State Fault Refusal :=
  .next (transact p .budgetSetup (budgetSetup base hysteresis frameLength) s)

/-- SET CURTAIL (R38). -/
def setCurtail (watts : BitVec 32) (s : State) : State × Answer :=
  let c := clampNat 0 200000 watts.toNat
  ({ s with hbo := { s.hbo with curtailment := c } }, ⟨setupStatus (c ≠ watts.toNat), be 4 c⟩)

/-- The meaning of SET CURTAIL (R38). -/
def execSetCurtail (p : Port) (watts : BitVec 32) (s : State) : Host.Outcome State Fault Refusal :=
  .next (transact p .setCurtail (setCurtail watts) s)

/-! ### Classes and requests -/

/-- Whether a shot in this phase makes its zones cure-critical (R41). -/
def Phase.critical : Phase → Bool
  | .closing => true
  | .bumping => true
  | .curing => true
  | .cured => true
  | .assembling => false
  | .opened => false
  | .aborted => false

/-- The cure-critical zones: those in the mask of an enabled cavity of the press-side shot, in the phases of R41. -/
def State.criticalZones (s : State) : List (Fin 12) :=
  match s.shc.press with
  | none => []
  | some sh => if sh.phase.critical then s.zonesOf sh else []

/-- A zone's class (R41). -/
def State.rankOf (s : State) (z : Fin 12) : Nat :=
  if z ∈ s.criticalZones then 0
  else
    match s.zct.heatMode with
    | .production => 1
    | .standby => 2

/-- A zone's request in watts, rounded up; 0 in OFF and FAULT (R40). -/
def Zone.request (x : Zone) : Nat :=
  match x.mode with
  | .auto => (x.demand * x.active.power + 999) / 1000
  | .manual => (x.demand * x.active.power + 999) / 1000
  | .off => 0
  | .fault => 0

/-- The sum of a figure over the twelve zones. -/
def sumZones (f : Fin 12 → Nat) : Nat :=
  ((List.finRange 12).map f).sum

/-- R_c: the sum of the requests of the zones in a class (R42). -/
def classSum (rank request : Fin 12 → Nat) (c : Nat) : Nat :=
  sumZones fun z => if rank z = c then request z else 0

/-! ### Allocation -/

/-- What a class's zones are granted of their demands (R42). -/
inductive Allotment where
  /-- Their demand whole (cases 2 and 3). -/
  | full
  /-- Their demand by a factor of 4096ths (case 4). -/
  | scaled (f : Nat)
  /-- Nothing (case 1). -/
  | nothing
  deriving DecidableEq, Repr

/-- A zone's grant under its class's allotment (R42). -/
def Allotment.grant : Allotment → Nat → Nat
  | .full, d => d
  | .scaled f, d => d * f / 4096
  | .nothing, _ => 0

/-- One class's turn: its allotment, the amount left, and whether a class has now been cut (R42). -/
def allotClass (rc a : Nat) (cutBefore : Bool) : Allotment × Nat × Bool :=
  if cutBefore then (.nothing, a, true)
  else if rc = 0 then (.full, a, false)
  else if rc ≤ a then (.full, a - rc, false)
  else (.scaled (a * 4096 / rc), 0, true)

/-- The allotments of the three classes, in the order 0, 1, 2 (R42). -/
def allotAll (budget r0 r1 r2 : Nat) : Allotment × Allotment × Allotment :=
  let c0 := allotClass r0 budget false
  let c1 := allotClass r1 c0.2.1 c0.2.2
  let c2 := allotClass r2 c1.2.1 c1.2.2
  (c0.1, c1.1, c2.1)

/-- The allotment of a class. -/
def allotmentOf (a : Allotment × Allotment × Allotment) (rank : Nat) : Allotment :=
  if rank = 0 then a.1 else if rank = 1 then a.2.1 else a.2.2

/-! ### Throttle and windows -/

/-- The throttle state after a boundary (R45). -/
def Throttle.next (t : Throttle) (total budget hysteresis : Nat) : Throttle :=
  match t with
  | .normal => if budget < total then .throttled else .normal
  | .throttled => if total * 1000 ≤ budget * (1000 - hysteresis) then .normal else .throttled

/-- The on-count of a grant in a frame (R47). -/
def onCountOf (grant frame : Nat) : Nat :=
  grant * frame / 1000

/-- The offset of a zone in a frame (R47). -/
def offsetOf (z : Fin 12) (frame : Nat) : Nat :=
  z.val * frame / 12

/-- Whether a window is on at a frame position (R47). -/
def inWindow (position offset onCount frame : Nat) : Bool :=
  decide (((position : Int) - (offset : Int)) % (frame : Int) < (onCount : Int))

/-- A share with its output set from its window for a frame position (R48). -/
def Share.atPosition (h : Share) (position frame : Nat) : Share :=
  { h with output := inWindow position h.offset h.onCount frame }

/-- A share with its output off (R50). -/
def Share.off (h : Share) : Share :=
  { h with output := false }

/-! ### The boundary -/

/-- The zones after stages 1 to 8 of a boundary (R18). -/
def State.boundaryZones (s : State) : Table Zone 12 :=
  s.zct.zones.mapIdx fun z x => x.boundary (s.judged z) (s.msq.tc.get z).value s.zct.readyBand s.clock

/-- The zones that enter FAULT at a boundary, in ascending order (R21). -/
def State.faultingZones (s : State) : List (Fin 12) :=
  (List.finRange 12).filter fun z =>
    let x := (s.zct.zones.get z).settle
    x.mode != .fault && (x.watch (s.judged z) (s.msq.tc.get z).value s.clock).mode == .fault

/-- The effective budget of a boundary (R40). -/
def State.effectiveBudget (s : State) : Nat :=
  min s.hbo.baseBudget s.hbo.curtailment

/-- The total request of a boundary (R40). -/
def State.boundaryRequest (s : State) : Nat :=
  sumZones fun z => (s.boundaryZones.get z).request

/-- The allotments of a boundary (R42). -/
def State.allotments (s : State) : Allotment × Allotment × Allotment :=
  let req := fun z => (s.boundaryZones.get z).request
  allotAll s.effectiveBudget (classSum s.rankOf req 0) (classSum s.rankOf req 1) (classSum s.rankOf req 2)

/-- A zone's grant at a boundary (R42). -/
def State.grantOf (s : State) (z : Fin 12) : Nat :=
  (allotmentOf s.allotments (s.rankOf z)).grant (s.boundaryZones.get z).demand

/-- A zone's share of the frame that a boundary begins, its output set for position 0 (R36, R42, R43, R47, R48). -/
def State.boundaryShare (s : State) (z : Fin 12) : Share :=
  let x := s.boundaryZones.get z
  let g := s.grantOf z
  let n := s.hbo.requestedLength
  Share.atPosition
    { rank := s.rankOf z
      request := x.request
      grant := g
      cut := decide (g < x.demand)
      onCount := onCountOf g n
      offset := offsetOf z n
      output := false } 0 n

/-- The throttle state that a boundary leaves (R45). -/
def State.boundaryThrottle (s : State) : Throttle :=
  s.hbo.throttle.next s.boundaryRequest s.effectiveBudget s.hbo.hysteresis

/-- HBO after a boundary's work (R39). -/
def State.boundaryHbo (s : State) : Hbo :=
  { s.hbo with
    budget := s.effectiveBudget
    totalRequest := s.boundaryRequest
    throttle := s.boundaryThrottle
    frameLength := s.hbo.requestedLength
    position := some 0
    mains := .present
    shares := Table.ofFn s.boundaryShare }

/-- The zones after the whole of a boundary's work, the integrator stage included (R18). -/
def State.finalZones (s : State) : Table Zone 12 :=
  s.boundaryZones.mapIdx fun z x =>
    x.integrate (s.judged z) (s.msq.tc.get z).value (s.boundaryShare z).cut

/-- Whether any zone's mode or READY mark differs between two tables of zones (R28). -/
def zonesChanged (before after : Table Zone 12) : Bool :=
  (List.finRange 12).any fun z =>
    (before.get z).mode != (after.get z).mode || (before.get z).ready != (after.get z).ready

/-- The boundary's figures loaded, before any notice (R18, R39). -/
def loadBoundary (s : State) : State :=
  { s with
    zct := { s.zct with zones := s.finalZones }
    hbo := s.boundaryHbo }

/-- The ZONE_FAULT notices of a boundary, in zone order (R21). -/
def faultNotices (zones : List (Fin 12)) (s : State) : State :=
  zones.foldl (fun st z => setNotice .press (.zoneFault z.val) st) s

/-- The THROTTLE notices of a boundary that changed the throttle state (R46). -/
def throttleNotices (s : State) : State :=
  let b := NoticeBody.throttle s.hbo.throttle s.hbo.budget s.hbo.totalRequest
  setNotice .trace b (setNotice .press b s)

/-- A frame boundary: the zones' work, HBO's work, the notices, and the reports to the shot controller
(R18, R28, R39, R46, R110). -/
def frameBoundary (s : State) : State :=
  let throttled := s.boundaryThrottle ≠ s.hbo.throttle
  let s1 := faultNotices s.faultingZones (loadBoundary s)
  let s2 := if throttled then throttleNotices s1 else s1
  if throttled || zonesChanged s.zct.zones s.finalZones then reexamine s2 else s2

/-! ### The zero-cross input -/

/-- The first pulse after a loss: mains PRESENT with its notice, and a boundary (R51). -/
def mainsReturn (s : State) : State :=
  frameBoundary (setNotice .press (.mains .present) { s with hbo := { s.hbo with mains := .present } })

/-- A pulse that is not a boundary: the position advances and every output takes its window's state (R48). -/
def advanceFrame (position : Nat) (s : State) : State :=
  { s with hbo := { s.hbo with
      position := some position
      shares := s.hbo.shares.mapIdx fun _ h => h.atPosition position s.hbo.frameLength } }

/-- A pulse at the zero-cross input: the state of the frame decides whether it is a boundary (R48, R51). -/
def pulse (s : State) : State :=
  match s.hbo.mains with
  | .lost => mainsReturn s
  | .present =>
    match s.hbo.position with
    | none => frameBoundary s
    | some p => if p + 1 < s.hbo.frameLength then advanceFrame (p + 1) s else frameBoundary s

/-- The meaning of a pulse sent as a plain zero-cross (R48). -/
def execZeroCross (s : State) : Host.Outcome State Fault Refusal :=
  .next (pulse s)

/-- The meaning of a pulse sent as a frame boundary (R18, R39, R51). -/
def execFrameBoundary (s : State) : Host.Outcome State Fault Refusal :=
  .next (pulse s)

/-- The mains watch runs out (R50). While the mains state is LOST no watch runs, and nothing changes. -/
def loseMains (s : State) : State :=
  match s.hbo.mains with
  | .lost => s
  | .present =>
    setNotice .press (.mains .lost)
      { s with hbo := { s.hbo with
          mains := .lost
          position := none
          shares := s.hbo.shares.mapIdx fun _ h => h.off } }

/-- The meaning of the mains watch running out (R50). -/
def execMainsLost (s : State) : Host.Outcome State Fault Refusal :=
  .next (loseMains s)

end Sys2Proof.Machine
end

