-- ==== Sys2Proof/Machine/Weighing.lean ====
section
/-! DEFINITION. The scale units' requests (R55, R56, R61, R65, R67, R73, R74, R76) and the events of their settling and of
their deadlines (R62, R63, R68, R71). -/

namespace Sys2Proof.Machine

/-- A request that names a scale: BAD_ARGUMENT for a scale number other than 0 or 1 (R55). -/
def onScale (scale : BitVec 8) (f : Fin 2 → State → State × Answer) (s : State) : State × Answer :=
  match inRange 2 scale with
  | none => (s, .bare .badArgument)
  | some k => f k s

/-- A request that is answered BUSY outside IDLE (R55, R56, R61, R65). -/
def whenIdle (k : Fin 2) (s : State) (r : State × Answer) : State × Answer :=
  if (s.scales.get k).state = .idle then r else (s, .bare .busy)

/-! ### Settings -/

/-- SET GAIN (R55). -/
def setGain (gain : BitVec 16) (k : Fin 2) (s : State) : State × Answer :=
  whenIdle k s (s.modifyScale k fun x => { x with gain := gain.toNat }, .bare .ok)

/-- The meaning of SET GAIN (R55). -/
def execSetGain (p : Port) (scale : BitVec 8) (gain : BitVec 16) (s : State) : Host.Outcome State Fault Refusal :=
  .next (transact p .setGain (onScale scale (setGain gain)) s)

/-- SCALE SETUP (R56). -/
def scaleSetup (band : BitVec 16) (count timeout : BitVec 8) (minPly : BitVec 16) (validity : BitVec 8) (k : Fin 2)
    (s : State) : State × Answer :=
  let b := clampNat 1 500 band.toNat
  let c := clampNat 4 64 count.toNat
  let t := clampNat 2 60 timeout.toNat
  let m := clampNat 10 5000 minPly.toNat
  let v := clampNat 1 240 validity.toNat
  whenIdle k s
    (s.modifyScale k fun x => { x with band := b, count := c, timeout := t, minPly := m, validity := v },
      ⟨setupStatus (b ≠ band.toNat || c ≠ count.toNat || t ≠ timeout.toNat || m ≠ minPly.toNat || v ≠ validity.toNat),
        be 2 b ++ be 1 c ++ be 1 t ++ be 2 m ++ be 1 v⟩)

/-- The meaning of SCALE SETUP (R56). -/
def execScaleSetup (p : Port) (scale : BitVec 8) (band : BitVec 16) (count timeout : BitVec 8) (minPly : BitVec 16)
    (validity : BitVec 8) (s : State) : Host.Outcome State Fault Refusal :=
  .next (transact p .scaleSetup (onScale scale (scaleSetup band count timeout minPly validity)) s)

/-! ### The tare -/

/-- A scale entering TARING with a deadline (R61). -/
def Scale.startTare (k : Scale) (deadline : Nat) : Scale :=
  { k with state := .taring, window := [], steadyRun := 0, reference := none, deadline := some deadline }

/-- TARE (R61). -/
def tare (k : Fin 2) (s : State) : State × Answer :=
  whenIdle k s <|
    if (s.scales.get k).gain = 0 then (s, .bare .uncalibrated)
    else
      let d := fitWord (s.clock + (s.scales.get k).timeout) s
      (d.2.modifyScale k fun x => x.startTare d.1, .bare .accepted)

/-- The meaning of TARE (R61). -/
def execTare (p : Port) (scale : BitVec 8) (s : State) : Host.Outcome State Fault Refusal :=
  .next (transact p .tare (onScale scale tare) s)

/-- The meaning of the result on which a taring scale settles: an acceptable load-cell result with status OK on the
scale's own channel (R6, R60, R62). -/
def execTareSettled (scale : Fin 2) (count : BitVec 24) (s : State) : Host.Outcome State Fault Refusal :=
  .next (arriveLc scale.val .ok count.toInt s)

/-- The meaning of a tare's deadline (R63). -/
def execTareTimeout (scale : Fin 2) (s : State) : Host.Outcome State Fault Refusal :=
  .next (timeoutTare scale s)

/-! ### The session -/

/-- Whether a cavity of the recipe names a charge group (R65, R98). -/
def Recipe.namesGroup (r : Recipe) (g : Fin 4) : Bool :=
  (List.finRange 4).any fun k => decide (k.val < r.cavityCount) && (r.cavities.get k).group == g.val

/-- The session record of a WEIGH START (R65, R66). -/
def Session.open (r : Recipe) (g : Fin 4) (now : Nat) : Session :=
  { mouldId := r.mouldId, revision := r.revision, group := g.val
    target := (r.groups.get g).target, lowTol := (r.groups.get g).lowTol, highTol := (r.groups.get g).highTol
    start := now, chargeId := none, plies := [], total := 0, cls := none, armedLot := none }

/-- WEIGH START (R65). -/
def weighStart (scale group : BitVec 8) (s : State) : State × Answer :=
  match inRange 2 scale, inRange 4 group with
  | some k, some g =>
    whenIdle k s <|
      match s.recipe with
      | none => (s, .bare .noMould)
      | some r =>
        if (s.scales.get k).gain = 0 then (s, .bare .uncalibrated)
        else if (s.scales.get k).stale s.clock then (s, .bare .tareStale)
        else if r.namesGroup g then
          (s.modifyScale k fun x => { x with state := .opened, session := some (Session.open r g s.clock) }, .bare .ok)
        else (s, .bare .badArgument)
  | _, _ => (s, .bare .badArgument)

/-- The meaning of WEIGH START (R65). -/
def execWeighStart (p : Port) (scale group : BitVec 8) (s : State) : Host.Outcome State Fault Refusal :=
  .next (transact p .weighStart (weighStart scale group) s)

/-- Whether a lot's floor life has passed; a lot the table does not hold has none (R67, R79). -/
def State.lotPassed (s : State) (id : Nat) : Bool :=
  (s.lot? id).any fun l => decide (l.deadline ≤ s.clock)

/-- A scale entering CAPTURING with an armed lot and a deadline (R67). -/
def Scale.startCapture (k : Scale) (e : Session) (lot deadline : Nat) : Scale :=
  { k with
    state := .capturing, window := [], steadyRun := 0, deadline := some deadline
    session := some { e with armedLot := some lot } }

/-- ADD PLY with a session open (R67, cases 4 to 7). -/
def addPlyOpen (k : Fin 2) (e : Session) (s : State) : State × Answer :=
  match (s.scales.get k).currentLot with
  | none => (s, .bare .noLot)
  | some lot =>
    if s.lotPassed lot then (s, .bare .lotExpired)
    else if 6 ≤ e.plies.length then (s, .bare .badState)
    else
      let d := fitWord (s.clock + (s.scales.get k).timeout) s
      (d.2.modifyScale k fun x => x.startCapture e lot d.1, .bare .accepted)

/-- ADD PLY (R67). -/
def addPly (k : Fin 2) (s : State) : State × Answer :=
  match (s.scales.get k).state, (s.scales.get k).session with
  | .capturing, _ => (s, .bare .busy)
  | .opened, some e => addPlyOpen k e s
  | .opened, none => (s, .bare .badState)
  | .idle, _ => (s, .bare .badState)
  | .taring, _ => (s, .bare .badState)

/-- The meaning of ADD PLY (R67). -/
def execAddPly (p : Port) (scale : BitVec 8) (s : State) : Host.Outcome State Fault Refusal :=
  .next (transact p .addPly (onScale scale addPly) s)

/-- The meaning of the result on which a capturing scale settles: an acceptable load-cell result with status OK on the
scale's own channel (R6, R60, R68). -/
def execPlySettled (scale : Fin 2) (count : BitVec 24) (s : State) : Host.Outcome State Fault Refusal :=
  .next (arriveLc scale.val .ok count.toInt s)

/-- The meaning of a capture's deadline (R71). -/
def execCaptureTimeout (scale : Fin 2) (s : State) : Host.Outcome State Fault Refusal :=
  .next (timeoutCapture scale s)

/-! ### Ending a session -/

/-- The capture time of a session's last ply (R73, R75). -/
def Session.lastPly (e : Session) : Nat :=
  (e.plies.getLast?.map SessionPly.time).getD 0

/-- A session's facts as a charge (R73, R75). -/
def Session.toCharge (e : Session) (close outDeadline : Nat) : Charge :=
  { id := e.chargeId.getD 0, mouldId := e.mouldId, revision := e.revision, group := e.group
    plies := e.plies.map SessionPly.ply, total := e.total, start := e.start, lastPly := e.lastPly
    close := close, outDeadline := outDeadline }

/-- A scale whose session is dropped: IDLE, with its lot, tare, settings and window kept (R73, R74). -/
def Scale.dropSession (k : Scale) : Scale :=
  { k with state := .idle, session := none, deadline := none }

/-- CLOSE CHARGE of an ACCEPT session, with a rack position free (R73, R88, R89). -/
def closeInto (position : Nat) (k : Fin 2) (e : Session) (s : State) : State × Answer :=
  let plies := e.plies.map SessionPly.ply
  let d := fitWord (s.outDeadline plies ((s.recipe.map Recipe.outTime).getD 0)) s
  let c := e.toCharge s.clock d.1
  let st := if s.clock < d.1 then RackState.queued else RackState.expired
  (enterRack c position (d.2.modifyScale k Scale.dropSession), ⟨.ok, be 4 c.id ++ be 1 position ++ be 1 st.code⟩)

/-- CLOSE CHARGE with a session open (R73, cases 4 to 7). -/
def closeOpen (k : Fin 2) (e : Session) (s : State) : State × Answer :=
  if e.plies.isEmpty then (s, .bare .badState)
  else
    match e.cls with
    | none => (s, .bare .badState)
    | some .low => (s, .named .badState ChargeClass.low.code)
    | some .high => (s, .named .badState ChargeClass.high.code)
    | some .accept =>
      match lowestFree s.ltr.rack with
      | none => (s, .bare .rackFull)
      | some position => closeInto position k e s

/-- CLOSE CHARGE (R73). -/
def closeCharge (k : Fin 2) (s : State) : State × Answer :=
  match (s.scales.get k).state, (s.scales.get k).session with
  | .capturing, _ => (s, .bare .busy)
  | .opened, some e => closeOpen k e s
  | .opened, none => (s, .bare .badState)
  | .idle, _ => (s, .bare .badState)
  | .taring, _ => (s, .bare .badState)

/-- The meaning of CLOSE CHARGE (R73). -/
def execCloseCharge (p : Port) (scale : BitVec 8) (s : State) : Host.Outcome State Fault Refusal :=
  .next (transact p .closeCharge (onScale scale closeCharge) s)

/-- The cause of a session's SCRAP record (R74). -/
def Session.discardCause (e : Session) : ScrapCause :=
  if e.cls = some .high then .overweight else .sessionDiscard

/-- The session dropped, a capture in progress abandoned and its armed lot released (R74). -/
def abandonSession (k : Fin 2) (e : Session) (s : State) : State :=
  releaseLot? e.armedLot (s.modifyScale k Scale.dropSession)

/-- The reply of DISCARD: its one field, the sequence number, is absent where no record was sealed, so a presence byte heads it
(R74, R75, R180). That a field only one case names counts as one that may be absent: DESIGN CHOICE, log entry 32. -/
def discardReply (sequence : Option Nat) : Answer :=
  ⟨.ok, bits [sequence.isSome] ++ beOpt 4 sequence⟩

/-- DISCARD of an open session (R74, R75). -/
def discardSession (k : Fin 2) (e : Session) (s : State) : State × Answer :=
  if e.plies.isEmpty then (abandonSession k e s, discardReply none)
  else if s.canIssue then
    (scrapNow (scrapRecord s e.discardCause (e.toCharge 0 0) none none none) (abandonSession k e s),
      discardReply (some s.hrg.nextSeq))
  else (s, .bare .historyFull)

/-- DISCARD (R74). -/
def discard (k : Fin 2) (s : State) : State × Answer :=
  match (s.scales.get k).state, (s.scales.get k).session with
  | .opened, some e => discardSession k e s
  | .capturing, some e => discardSession k e s
  | .opened, none => (s, .bare .badState)
  | .capturing, none => (s, .bare .badState)
  | .idle, _ => (s, .bare .badState)
  | .taring, _ => (s, .bare .badState)

/-- The meaning of DISCARD (R74). -/
def execDiscard (p : Port) (scale : BitVec 8) (s : State) : Host.Outcome State Fault Refusal :=
  .next (transact p .discard (onScale scale discard) s)

/-- SCALE STATUS (R76). -/
def scaleStatus (k : Fin 2) (s : State) : State × Answer :=
  (s, ⟨.ok, (s.scales.get k).reply s.clock⟩)

/-- The meaning of SCALE STATUS (R76). -/
def execScaleStatus (p : Port) (scale : BitVec 8) (s : State) : Host.Outcome State Fault Refusal :=
  .next (transact p .scaleStatus (onScale scale scaleStatus) s)

end Sys2Proof.Machine
end

