-- ==== Sys2Proof/Machine/Rack.lean ====
section
/-! DEFINITION. The lot table's and the charge rack's requests and events: DECLARE LOT, LOT SETUP, READ LOTS and aging (R80
to R86); DISCARD CHARGE, READ QUEUE, TAKE CHARGE, RETURN CHARGE and expiry (R90 to R96). -/

namespace Sys2Proof.Machine

/-! ### Declaring a lot -/

/-- The lot table changed. -/
def State.withLots (s : State) (lots : List Lot) : State :=
  { s with ltr := { s.ltr with lots := lots } }

/-- One scale's current lot written. -/
def State.setCurrentLot (s : State) (k : Fin 2) (lot : Option Nat) : State :=
  s.modifyScale k fun x => { x with currentLot := lot }

/-- The other scale. -/
def otherScale (k : Fin 2) : Fin 2 :=
  k + 1

/-- Whether the lot is the current lot of the scale other than `k` (R82). -/
def State.migrates (s : State) (k : Fin 2) (lot : Nat) : Bool :=
  (s.scales.get (otherScale k)).currentLot == some lot

/-- A lot leaves the other scale for scale `k`, with LOT_MOVED (R82). -/
def migrate (k : Fin 2) (lot : Nat) (s : State) : State :=
  setNotice .charge (.lotMoved lot (otherScale k).val k.val) (s.setCurrentLot (otherScale k) none)

/-- The declared lot becomes scale `k`'s current lot; the lot it replaces is released (R79, R82). -/
def makeCurrent (k : Fin 2) (lot : Nat) (s : State) : State :=
  if (s.scales.get k).currentLot = some lot then s
  else
    let s1 := if s.migrates k lot then migrate k lot s else s
    releaseLot? (s.scales.get k).currentLot (s1.setCurrentLot k (some lot))

/-- A known lot declared again: last-seen and last scale are written, the deadline kept (R80). -/
def Lot.redeclare (l : Lot) (k : Fin 2) (now : Nat) : Lot :=
  { l with lastSeen := now, lastScale := k.val }

/-- The table with room for one more entry: as it is, or with one entry evicted; none where every entry of a full table is
in use (R80, case 3; R81). -/
def State.roomForLot (s : State) : Option (List Lot) :=
  if s.ltr.lots.length < Config.lotRoom then some s.ltr.lots
  else (oldestSeen s.idleLots).map fun l => s.ltr.lots.filter fun m => m.id ≠ l.id

/-- The reply of DECLARE LOT: lot ID, deadline held, the learned mark, and the mark of a lot taken from the other scale
(R80). -/
def declareReply (s : State) (k : Fin 2) (lot deadline : Nat) (learned : Bool) : List Byte :=
  be 4 lot ++ be 4 deadline ++ mark learned ++ mark (s.migrates k lot)

/-- An unknown lot learned into a table with room (R81). -/
def learnLot (k : Fin 2) (lot material minutes : Nat) (room : List Lot) (s : State) : State × Nat :=
  let d := fitWord (s.clock + minutes * 60) s
  (d.2.withLots (insertLot
      { id := lot, material := material, deadline := d.1, lastScale := k.val, lastSeen := s.clock, refs := 0 } room), d.1)

/-- DECLARE LOT for a scale and a lot ID that is not 0 (R80, cases 2 to 4). -/
def declareOn (k : Fin 2) (lot material minutes : Nat) (s : State) : State × Answer :=
  let st := setupStatus (minutes = 0)
  match s.lot? lot with
  | some l =>
    if l.material ≠ material then (s, .bare .lotConflict)
    else
      (makeCurrent k lot (s.modifyLot lot fun x => x.redeclare k s.clock),
        ⟨st, declareReply s k lot l.deadline false⟩)
  | none =>
    match s.roomForLot with
    | none => (s, .bare .lotTableFull)
    | some room =>
      let r := learnLot k lot material (max 1 minutes) room s
      (makeCurrent k lot r.1, ⟨st, declareReply s k lot r.2 true⟩)

/-- DECLARE LOT (R80). -/
def declareLot (lot : BitVec 32) (material minutes : BitVec 16) (k : Fin 2) (s : State) : State × Answer :=
  if lot = 0 then (s, .bare .badArgument) else declareOn k lot.toNat material.toNat minutes.toNat s

/-- The meaning of DECLARE LOT (R80). -/
def execDeclareLot (p : Port) (scale : BitVec 8) (lot : BitVec 32) (material minutes : BitVec 16) (s : State) :
    Host.Outcome State Fault Refusal :=
  .next (transact p .declareLot (onScale scale (declareLot lot material minutes)) s)

/-! ### Aging -/

/-- LOT SETUP (R84). -/
def lotSetup (period : BitVec 8) (s : State) : State × Answer :=
  let v := clampNat 1 240 period.toNat
  ({ s with ltr := { s.ltr with agingPeriod := v } }, ⟨setupStatus (v ≠ period.toNat), be 1 v⟩)

/-- The meaning of LOT SETUP (R84). -/
def execLotSetup (p : Port) (period : BitVec 8) (s : State) : Host.Outcome State Fault Refusal :=
  .next (transact p .lotSetup (lotSetup period) s)

/-- READ LOTS (R86). -/
def readLots (s : State) : State × Answer :=
  (s, ⟨.ok, s.lotsReply⟩)

/-- The meaning of READ LOTS (R86). -/
def execReadLots (p : Port) (s : State) : Host.Outcome State Fault Refusal :=
  .next (transact p .readLots readLots s)

/-- Whether an entry has passed its aging period at the run-second now running, under the period its step of the run clock
found (R83, R84; log entry 8). -/
def State.lotOld (s : State) (l : Lot) : Bool :=
  !s.lotInUse l && decide (s.ltr.stepAging * 60 < elapsed s.clock l.lastSeen)

/-- The aging of one lot: its entry is removed where it has passed its aging period (R83). -/
def ageLot (lot : Nat) (s : State) : State :=
  s.withLots (s.ltr.lots.filter fun l => !(decide (l.id = lot) && s.lotOld l))

/-- The meaning of a lot entry passing its aging period (R83). -/
def execLotAged (lot : BitVec 32) (s : State) : Host.Outcome State Fault Refusal :=
  .next (ageLot lot.toNat s)

/-! ### The rack -/

/-- A rack record marked at its out-deadline (R90). -/
def RackRecord.marked (r : RackRecord) : RackRecord :=
  match r.state with
  | .queued => { r with state := .expired }
  | .staged cavity sequence _ => { r with state := .staged cavity sequence true }
  | .expired => r

/-- The cavity a record is STAGED to. -/
def RackState.cavity : RackState → Option Nat
  | .queued => none
  | .expired => none
  | .staged cavity _ _ => some cavity

/-- One record's expiry, with its notice, where it is due (R90). -/
def expireRecord (r : RackRecord) (s : State) : State :=
  if s.expiring r then
    setNotice .charge (.chargeExpired r.charge.id r.position r.state.cavity)
      (s.modifyRack r.charge.id RackRecord.marked)
  else s

/-- The expiry of one charge's record (R90). -/
def expireCharge (id : Nat) (s : State) : State :=
  match s.rackRecord? id with
  | none => s
  | some r => expireRecord r s

/-- The meaning of a rack record reaching its out-deadline (R90). -/
def execChargeExpired (charge : BitVec 32) (s : State) : Host.Outcome State Fault Refusal :=
  .next (expireCharge charge.toNat s)

/-- DISCARD CHARGE of a waiting record (R91, cases 3 and 4). -/
def discardRecord (r : RackRecord) (cause : ScrapCause) (s : State) : State × Answer :=
  if s.canIssue then
    (scrapNow (scrapRecord s cause r.charge (some r.charge.close) none none) (s.leaveRack r.charge.id),
      ⟨.ok, be 4 s.hrg.nextSeq⟩)
  else (s, .bare .historyFull)

/-- DISCARD CHARGE (R91). -/
def discardCharge (charge : BitVec 32) (s : State) : State × Answer :=
  match s.rackRecord? charge.toNat with
  | none => (s, .bare .noCharge)
  | some r =>
    match r.state with
    | .staged cavity _ _ => (s, .named .badState cavity)
    | .queued => discardRecord r .rackDiscard s
    | .expired => discardRecord r .expiredDiscard s

/-- The meaning of DISCARD CHARGE (R91). -/
def execDiscardCharge (p : Port) (charge : BitVec 32) (s : State) : Host.Outcome State Fault Refusal :=
  .next (transact p .discardCharge (discardCharge charge) s)

/-- READ QUEUE (R96). -/
def readQueue (s : State) : State × Answer :=
  (s, ⟨.ok, s.queueReply⟩)

/-- The meaning of READ QUEUE (R96). -/
def execReadQueue (p : Port) (s : State) : Host.Outcome State Fault Refusal :=
  .next (transact p .readQueue readQueue s)

/-! ### Staging -/

/-- Whether a rack record may be chosen for a cavity: the lookup and the filter of R93. -/
def RackRecord.suits (x : RackRecord) (r : Recipe) (k : Fin 4) (now : Nat) : Bool :=
  x.state == .queued && x.charge.mouldId == r.mouldId && x.charge.revision == r.revision
    && x.charge.group == (r.cavities.get k).group && decide (now + r.loadMargin ≤ x.charge.outDeadline)

/-- The charge chosen for a cavity: the earliest in the queue that suits it (R93). -/
def State.choose (s : State) (k : Fin 4) : Option RackRecord :=
  s.recipe.bind fun r => s.ltr.rack.find? fun x => x.suits r k s.clock

/-- The effects of a successful TAKE CHARGE: the reservation, the rack record STAGED, the cavity STAGED (R93). -/
def stage (k : Fin 4) (r : RackRecord) (s : State) : State :=
  let q := s.hrg.nextSeq
  let s1 := (reserve s).modifyRack r.charge.id fun x => { x with state := .staged k.val q false }
  s1.modifyAssembling fun sh =>
    sh.modifyCavity k fun c => { c with state := .staged, chargeId := some r.charge.id, sequence := some q }

/-- The reply of a TAKE CHARGE answered OK (R93). -/
def stageReply (r : RackRecord) (sequence : Nat) : List Byte :=
  be 4 r.charge.id ++ be 1 r.position ++ be 1 r.charge.group ++ be 2 r.charge.total ++ be 4 r.charge.outDeadline
    ++ be 4 sequence

/-- Whether a cavity of the assembling shot is enabled and EMPTY (R92, cases 2 and 3). -/
def State.cavityEmpty (s : State) (k : Fin 4) : Bool :=
  (s.assemblingCavity k).any fun c => c.state == .empty

/-- TAKE CHARGE (R92, R93). -/
def takeCharge (cavity : BitVec 8) (s : State) : State × Answer :=
  match inRange 4 cavity with
  | none => (s, .bare .badArgument)
  | some k =>
    if s.cavityEmpty k then
      match s.choose k with
      | none => (s, .bare .noCharge)
      | some r => if s.canIssue then (stage k r s, ⟨.ok, stageReply r s.hrg.nextSeq⟩) else (s, .bare .historyFull)
    else (s, .bare .badState)

/-- The meaning of TAKE CHARGE (R92). -/
def execTakeCharge (p : Port) (cavity : BitVec 8) (s : State) : Host.Outcome State Fault Refusal :=
  .next (transact p .takeCharge (takeCharge cavity) s)

/-- RETURN CHARGE (R94). -/
def returnCharge (cavity : BitVec 8) (s : State) : State × Answer :=
  match inRange 4 cavity with
  | none => (s, .bare .badArgument)
  | some k =>
    match s.stagedCharge k with
    | none => (s, .bare .badState)
    | some (r, q) =>
      (returnStaged k r q s, ⟨.ok, be 4 r.charge.id ++ be 1 r.position ++ be 1 (s.returnState r).code⟩)

/-- The meaning of RETURN CHARGE (R94). -/
def execReturnCharge (p : Port) (cavity : BitVec 8) (s : State) : Host.Outcome State Fault Refusal :=
  .next (transact p .returnCharge (returnCharge cavity) s)

end Sys2Proof.Machine
end

