-- ==== Sys2Proof/Machine/Recipes.lean ====
section
/-! DEFINITION. The recipe table and the mount: WRITE RECIPE with its checks and clamping, READ RECIPE, MOUNT MOULD, UNMOUNT
and SET STATION (R98 to R102, R105). -/

namespace Sys2Proof.Machine

/-! ### Writing a recipe -/

/-- Whether a recipe body has a cavity below its count with a charge group above 3 or an empty zone mask (R99, case 3). -/
def badCavity (b : RecipeBody) : Bool :=
  (List.finRange 4).any fun k =>
    decide (k.val < b.cavityCount.toNat) && (decide (3 < (b.groupOf.get k).toNat) || (b.maskOf.get k) == 0)

/-- Case 3 of R99: a mould ID of 0, a cavity count out of range, a group above 3, a zone above 11, or an empty mask. -/
def badBody (b : RecipeBody) : Bool :=
  b.mouldId == 0 || b.cavityCount == 0 || decide (4 < b.cavityCount.toNat) || badCavity b
    || b.maskOf.toList.any maskBeyondZones

/-- A take attempt limit as written: 0 stands for the default 2, and one above 3 is taken as 3 (R99). -/
def takeLimitOf (v : BitVec 8) : Nat :=
  if v = 0 then 2 else min 3 v.toNat

/-- A cavity of a recipe as held: at or above the count, group 0 and an empty mask (R98). -/
def heldCavity (b : RecipeBody) (k : Fin 4) : RecipeCavity :=
  if k.val < b.cavityCount.toNat then ⟨(b.groupOf.get k).toNat, (b.maskOf.get k).setWidth 12⟩ else ⟨0, 0⟩

/-- The recipe a body gives, its setup values clamped (R98, R99). -/
def recipeOf (b : RecipeBody) : Recipe where
  mouldId := b.mouldId.toNat
  revision := b.revision.toNat
  cavityCount := b.cavityCount.toNat
  cavities := Table.ofFn (heldCavity b)
  groups := b.groups.mapIdx fun _ g => ⟨g.target.toNat, g.lowTol.toNat, g.highTol.toNat⟩
  setpoints := b.setpoints.mapIdx fun _ x => clampSigned 0 2500 x.toInt
  cureTarget := clampNat 1 4294967294 b.cureTarget.toNat
  overCure := b.overCure.toNat
  rates := b.rates.mapIdx fun _ x => ⟨x.temp.toInt, min 1000 x.rate.toNat⟩
  bumpCount := clampNat 0 5 b.bumpCount.toNat
  demouldWindow := clampNat 5 600 b.demouldWindow.toNat
  outTime := clampNat 1 1440 b.outTime.toNat
  loadMargin := clampNat 0 600 b.loadMargin.toNat
  takeLimit := takeLimitOf b.takeLimit
  blindLimit := clampNat 0 600 b.blindLimit.toNat

/-- Whether any value of a body was clamped (R99): a take attempt limit of 0 is not. -/
def bodyClamped (b : RecipeBody) (r : Recipe) : Bool :=
  ((List.finRange 12).any fun z => decide ((r.setpoints.get z : Int) ≠ (b.setpoints.get z).toInt))
    || ((List.finRange 8).any fun i => decide ((r.rates.get i).rate ≠ (b.rates.get i).rate.toNat))
    || decide (r.cureTarget ≠ b.cureTarget.toNat) || decide (r.bumpCount ≠ b.bumpCount.toNat)
    || decide (r.demouldWindow ≠ b.demouldWindow.toNat) || decide (r.outTime ≠ b.outTime.toNat)
    || decide (r.loadMargin ≠ b.loadMargin.toNat) || decide (3 < b.takeLimit.toNat)
    || decide (r.blindLimit ≠ b.blindLimit.toNat)

/-- Whether each item of a list stands to the next as asked. -/
def adjacent {α : Type} (ok : α → α → Bool) : List α → Bool
  | [] => true
  | [_] => true
  | a :: b :: rest => ok a b && adjacent ok (b :: rest)

/-- Case 4 of R99, after the clamping: the temperatures, the rates and the over-cure limit are in order. -/
def Recipe.ordered (r : Recipe) : Bool :=
  adjacent (fun a b => decide (a.temp < b.temp) && decide (a.rate ≤ b.rate)) r.rates.toList
    && decide (r.cureTarget < r.overCure)

/-- A recipe written into a slot (R99). -/
def State.setRecipe (s : State) (i : Fin 8) (r : Recipe) : State :=
  { s with shc := { s.shc with recipes := s.shc.recipes.set i (some r) } }

/-- WRITE RECIPE (R99). -/
def writeRecipe (slot : BitVec 8) (b : RecipeBody) (s : State) : State × Answer :=
  match inRange 8 slot with
  | none => (s, .bare .badArgument)
  | some i =>
    if s.shc.mounted = some i then (s, .bare .badState)
    else if badBody b then (s, .bare .badArgument)
    else if (recipeOf b).ordered then
      (s.setRecipe i (recipeOf b), ⟨setupStatus (bodyClamped b (recipeOf b)), be 1 i.val ++ (recipeOf b).bytes⟩)
    else (s, .bare .badArgument)

/-- The meaning of WRITE RECIPE (R99). -/
def execWriteRecipe (p : Port) (slot : BitVec 8) (body : RecipeBody) (s : State) : Host.Outcome State Fault Refusal :=
  .next (transact p .writeRecipe (writeRecipe slot body) s)

/-- READ RECIPE (R100). -/
def readRecipe (slot : BitVec 8) (s : State) : State × Answer :=
  match inRange 8 slot with
  | none => (s, .bare .badArgument)
  | some i => (s, ⟨.ok, s.recipeReply i⟩)

/-- The meaning of READ RECIPE (R100). -/
def execReadRecipe (p : Port) (slot : BitVec 8) (s : State) : Host.Outcome State Fault Refusal :=
  .next (transact p .readRecipe (readRecipe slot) s)

/-! ### The mount and the station -/

/-- The mount changed, with every zone's pending setpoint derived afresh (R101, R102, R17). -/
def setMount (m : Option (Fin 8)) (s : State) : State :=
  deriveAll { s with shc := { s.shc with mounted := m } }

/-- MOUNT MOULD (R101). -/
def mountMould (slot : BitVec 8) (s : State) : State × Answer :=
  match inRange 8 slot with
  | none => (s, .bare .badArgument)
  | some i =>
    if s.shc.mounted.isSome || !s.tableEmpty then (s, .bare .badState)
    else
      match s.shc.recipes.get i with
      | none => (s, .bare .badState)
      | some r => (setMount (some i) s, ⟨.ok, be 2 r.mouldId ++ be 1 r.revision ++ be 1 r.cavityCount⟩)

/-- The meaning of MOUNT MOULD (R101). -/
def execMountMould (p : Port) (slot : BitVec 8) (s : State) : Host.Outcome State Fault Refusal :=
  .next (transact p .mountMould (mountMould slot) s)

/-- Whether either scale has a session open (R102). -/
def State.weighing (s : State) : Bool :=
  s.scales.toList.any fun k => k.state == .opened || k.state == .capturing

/-- UNMOUNT (R102). -/
def unmount (s : State) : State × Answer :=
  if s.shc.mounted.isNone || !s.tableEmpty || !s.ltr.rack.isEmpty || s.weighing then (s, .bare .badState)
  else
    (setMount none s, ⟨.ok, beOpt 2 (s.recipe.map Recipe.mouldId) ++ beOpt 1 (s.recipe.map Recipe.revision)⟩)

/-- The meaning of UNMOUNT (R102). -/
def execUnmount (p : Port) (s : State) : Host.Outcome State Fault Refusal :=
  .next (transact p .unmount unmount s)

/-- SET STATION (R105). -/
def setStation (station : BitVec 16) (s : State) : State × Answer :=
  ({ s with shc := { s.shc with station := station.toNat } }, .bare .ok)

/-- The meaning of SET STATION (R105). -/
def execSetStation (p : Port) (station : BitVec 16) (s : State) : Host.Outcome State Fault Refusal :=
  .next (transact p .setStation (setStation station) s)

end Sys2Proof.Machine
end

