-- ==== Sys2Proof/Machine/Shots.lean ====
section
/-! DEFINITION. The shot controller's requests, reports and events: arming, loading and removal (R106 to R108), the close
(R109 to R111), the press's reports and the start of cure (R113, R114), opening (R116, R117), the abort (R118), the
production reset (R120) and READ SHOTS (R121). -/

namespace Sys2Proof.Machine

/-! ### Assembling -/

/-- The shot that ARM SHOT creates (R106). -/
def newShot (number : Nat) (slot : Fin 8) (r : Recipe) (mask : BitVec 8) (now : Nat) : Shot :=
  { number := number, slot := slot.val, mouldId := r.mouldId, revision := r.revision
    phase := .assembling, bumps := 0
    times := { armed := some now, closeGrant := none, closing := none, cureStart := none, cured := none, opening := none }
    cavities := Table.ofFn fun k => if k ∈ maskCavities mask then some Cavity.fresh else none }

/-- The heat mode at ARM SHOT: PRODUCTION, with the standby wait stopped (R32). -/
def heatForShot (s : State) : State :=
  match s.zct.heatMode with
  | .standby => enterProduction none s
  | .production => { s with zct := { s.zct with emptySince := none } }

/-- A new shot takes a free entry, its number issued (R106, steps 1 to 4). -/
def arm (slot : Fin 8) (r : Recipe) (mask : BitVec 8) (s : State) : State :=
  let n := s.shc.shotCounter
  let f := fitWord (n + 1) s
  heatForShot
    { f.2 with shc := { f.2.shc with
        shotCounter := f.1, assembling := some (newShot n slot r mask s.clock) } }

/-- ARM SHOT (R106). -/
def armShot (mask : BitVec 8) (s : State) : State × Answer :=
  match s.shc.mounted, s.recipe with
  | some slot, some r =>
    if mask = 0 || maskReaches mask r.cavityCount || maskReaches mask 4 then (s, .bare .badArgument)
    else if s.shc.assembling.isSome then (s, .bare .badState)
    else (arm slot r mask s, ⟨.ok, be 4 s.shc.shotCounter⟩)
  | _, _ => (s, .bare .noMould)

/-- The meaning of ARM SHOT (R106). -/
def execArmShot (p : Port) (mask : BitVec 8) (s : State) : Host.Outcome State Fault Refusal :=
  .next (transact p .armShot (armShot mask) s)

/-- The charge staged to a cavity passes from the rack into the mould (R95, R107). -/
def load (k : Fin 4) (r : RackRecord) (s : State) : State :=
  (s.leaveRack r.charge.id).modifyAssembling fun sh =>
    sh.modifyCavity k fun c => { c with state := .loaded, charge := some r.charge, loadTime := some s.clock }

/-- LOADED (R107). -/
def loaded (cavity : BitVec 8) (s : State) : State × Answer :=
  match inRange 4 cavity with
  | none => (s, .bare .badArgument)
  | some k =>
    match s.stagedCharge k with
    | none => (s, .bare .badState)
    | some (r, _) =>
      if s.shc.press.isNone && s.dmi.holder == .handler then (load k r s, ⟨.ok, be 4 r.charge.id⟩)
      else (s, .bare .badState)

/-- The meaning of LOADED (R107). -/
def execLoaded (p : Port) (cavity : BitVec 8) (s : State) : Host.Outcome State Fault Refusal :=
  .next (transact p .loaded (loaded cavity) s)

/-- A loaded charge is taken back out for scrap: its record sealed, the cavity EMPTY, a held close re-examined
(R108, R110). -/
def removeFrom (shot : Nat) (k : Fin 4) (c : Cavity) (s : State) : State :=
  let s1 := readyScraps (sealSequences [(k, c)]) (scrapCavity .removedFromCavity shot k c s)
  reexamine (s1.modifyAssembling fun sh => sh.modifyCavity k Cavity.emptied)

/-- REMOVE CHARGE (R108). -/
def removeCharge (cavity : BitVec 8) (s : State) : State × Answer :=
  match inRange 4 cavity with
  | none => (s, .bare .badArgument)
  | some k =>
    match s.shc.assembling, s.assemblingCavity k with
    | some sh, some c =>
      if c.state == .loaded && s.dmi.holder == .handler then
        (removeFrom sh.number k c s, ⟨.ok, beOpt 4 c.sequence⟩)
      else (s, .bare .badState)
    | _, _ => (s, .bare .badState)

/-- The meaning of REMOVE CHARGE (R108). -/
def execRemoveCharge (p : Port) (cavity : BitVec 8) (s : State) : Host.Outcome State Fault Refusal :=
  .next (transact p .removeCharge (removeCharge cavity) s)

/-! ### The close -/

/-- The press port now has a close held for the assembling shot (R109). -/
def holdClose (s : State) : State :=
  { s with shc := { s.shc with heldClose := s.shc.assembling.map fun sh => ⟨sh.number, s.clock⟩ } }

/-- CLOSE (R109). -/
def close (s : State) : State × Answer :=
  match s.closeRefusal with
  | some (a, _) => (s, a)
  | none =>
    if s.shc.heldClose.isSome then (s, ⟨.held, s.holdFields⟩)
    else if s.holdMet then (grantClose s, .bare .ok)
    else (holdClose s, ⟨.held, s.holdFields⟩)

/-- The meaning of CLOSE (R109). -/
def execClose (p : Port) (s : State) : Host.Outcome State Fault Refusal :=
  .next (transact p .close close s)

/-- WITHDRAW CLOSE (R111). -/
def withdrawClose (s : State) : State × Answer :=
  if s.shc.heldClose.isSome then (endClose .withdrawn s, .bare .ok) else (s, .bare .badState)

/-- The meaning of WITHDRAW CLOSE (R111). -/
def execWithdrawClose (p : Port) (s : State) : Host.Outcome State Fault Refusal :=
  .next (transact p .withdrawClose withdrawClose s)

/-- Whether a loaded charge has reached its out-deadline while a close is held (R110). -/
def State.closeOverdue (s : State) : Bool :=
  s.shc.heldClose.isSome && s.shc.assembling.any fun sh => (sh.firstOverdue s.clock).isSome

/-- The run-second examination of a held close for the out-deadlines of the loaded charges (R110). -/
def examineDeadlines (s : State) : State :=
  if s.closeOverdue then reexamine s else s

/-- The meaning of a loaded charge's out-deadline reached with a close held (R110). -/
def execLoadedChargeDeadline (s : State) : Host.Outcome State Fault Refusal :=
  .next (examineDeadlines s)

/-! ### The press's reports -/

/-- A report of the press that needs a press-side shot and the press holding the lock (R113). -/
def pressReport (f : Shot → State × Answer) (s : State) : State × Answer :=
  match s.shc.press with
  | none => (s, .bare .badState)
  | some sh => if s.dmi.holder = .press then f sh else (s, .bare .badState)

/-- The press-side shot replaced. -/
def State.setPress (s : State) (sh : Shot) : State :=
  { s with shc := { s.shc with press := some sh } }

/-- The closing time of a shot, recorded (R113). -/
def Shot.closedAt (sh : Shot) (now : Nat) : Shot :=
  { sh with phase := .bumping, times := { sh.times with closing := some now } }

/-- One more bump, stopping at 255 (R113). -/
def Shot.bumped (sh : Shot) : Shot :=
  { sh with bumps := min 255 (sh.bumps + 1) }

/-- CLOSED (R113). -/
def closed (s : State) : State × Answer :=
  pressReport (fun sh =>
    match sh.phase with
    | .closing => (s.setPress (sh.closedAt s.clock), .bare .ok)
    | .assembling | .bumping | .curing | .cured | .opened | .aborted => (s, .bare .ok)) s

/-- The meaning of CLOSED (R113). -/
def execClosed (p : Port) (s : State) : Host.Outcome State Fault Refusal :=
  .next (transact p .closed closed s)

/-- BUMP (R113). -/
def bump (s : State) : State × Answer :=
  pressReport (fun sh =>
    match sh.phase with
    | .closing => (s.setPress (sh.closedAt s.clock).bumped, .bare .ok)
    | .bumping => (s.setPress sh.bumped, .bare .ok)
    | .assembling | .curing | .cured | .opened | .aborted => (s, .bare .ok)) s

/-- The meaning of BUMP (R113). -/
def execBump (p : Port) (s : State) : Host.Outcome State Fault Refusal :=
  .next (transact p .bump bump s)

/-- The flags a cavity takes at cure start: BUMPS_SHORT and OUTTIME_EXCEEDED (R114, steps 1 and 2). -/
def Cavity.flagAtCure (c : Cavity) (short : Bool) (now : Nat) : Cavity :=
  { c with flags := { c.flags with
      bumpsShort := c.flags.bumpsShort || short
      outtimeExceeded := c.flags.outtimeExceeded || c.overdue now } }

/-- A cavity at cure start: its part number and station ID, its fresh cure fields (R114, steps 3 to 5). -/
def Cavity.startCure (c : Cavity) (part station : Nat) : Cavity :=
  { c with state := .curing, part := some part, station := some station, cure := some Cure.start }

/-- Part numbers issued to cavities in ascending order, each cavity starting its cure (R114, steps 3 to 5). -/
def startParts : List (Fin 4) → Shot → State → Shot × State × List Nat
  | [], sh, s => (sh, s, [])
  | k :: rest, sh, s =>
    let n := s.shc.partCounter
    let f := fitWord (n + 1) s
    let r := startParts rest (sh.modifyCavity k fun c => c.startCure n s.shc.station)
      { f.2 with shc := { f.2.shc with partCounter := f.1 } }
    (r.1, r.2.1, n :: r.2.2)

/-- The reply of PRESSURE: its one field, the list of part numbers in cavity order, is absent where no cure starts, so a presence
byte heads it (R113, R114, R180). That a field only one case names counts as one that may be absent: DESIGN CHOICE, log entry
32. -/
def pressureReply (parts : Option (List Nat)) : Answer :=
  ⟨.ok, bits [parts.isSome] ++ beList ((parts.getD []).map (be 4))⟩

/-- The start of cure (R114). -/
def startCure (sh : Shot) (s : State) : State × Answer :=
  let short := decide (sh.bumps < (s.recipe.map Recipe.bumpCount).getD 0)
  let flagged := sh.mapEnabled fun _ c => c.flagAtCure short s.clock
  let r := startParts (sh.enabled.map Prod.fst) flagged s
  (r.2.1.setPress { r.1 with phase := .curing, times := { r.1.times with cureStart := some s.clock } },
    pressureReply (some r.2.2))

/-- PRESSURE (R113, R114). -/
def pressure (s : State) : State × Answer :=
  pressReport (fun sh =>
    match sh.phase with
    | .closing => startCure (sh.closedAt s.clock) s
    | .bumping => startCure sh s
    | .assembling | .curing | .cured | .opened | .aborted => (s, pressureReply none)) s

/-- The meaning of PRESSURE (R113, R114). -/
def execPressure (p : Port) (s : State) : Host.Outcome State Fault Refusal :=
  .next (transact p .pressure pressure s)

/-! ### Opening -/

/-- OPEN (R116). -/
def openPress (s : State) : State × Answer :=
  match s.shc.press with
  | none => (s, .bare .badState)
  | some sh =>
    match sh.phase with
    | .cured => (s, .bare .ok)
    | .curing =>
      if s.shc.heldOpen.isSome then (s, .bare .held)
      else ({ s with shc := { s.shc with heldOpen := some sh.number } }, .bare .held)
    | .assembling | .closing | .bumping | .opened | .aborted => (s, .bare .badState)

/-- The meaning of OPEN (R116). -/
def execOpenPress (p : Port) (s : State) : Host.Outcome State Fault Refusal :=
  .next (transact p .openPress openPress s)

/-- A cavity at the OPENED report that begins the demould: its demould fields (R140), and OPENED_EARLY where the shot
opens from CURING (R117). -/
def Cavity.openMould (c : Cavity) (early : Bool) : Cavity :=
  { c with
    attempts := some 0, failMark := none, takeTime := none, latency := none, clear := none
    flags := { c.flags with openedEarly := c.flags.openedEarly || early } }

/-- The demould state at OPENED, with its window deadline (R140). -/
def Demould.start (deadline : Nat) : Demould :=
  { engaged := false, grant := false, heldEject := false, count := 0, engageMark := 0, deadline := deadline
    lateGiven := false }

/-- The shot opens from CURING or CURED: it is OPEN, and its demould window starts (R117, R140). -/
def openMould (sh : Shot) (early : Bool) (s : State) : State :=
  let d := fitWord (s.clock + (s.recipe.map Recipe.demouldWindow).getD 0) (endOpen .opened s)
  let sh' := sh.mapEnabled fun _ c => c.openMould early
  { d.2 with
    shc := { d.2.shc with press := some { sh' with phase := .opened, times := { sh'.times with opening := some s.clock } } }
    dmi := { d.2.dmi with demould := some (Demould.start d.1) } }

/-- The press-side entry is freed (R103, R117). -/
def freePress (s : State) : State :=
  entryFreed { s with shc := { s.shc with press := none } }

/-- The implicit abort of a shot opened in CLOSING or BUMPING (R117). -/
def implicitAbort (sh : Shot) (s : State) : State :=
  freePress (setNotice .handler (.shotAborted sh.number) (scrapShot sh s))

/-- What an OPENED report does in every phase but OPEN, after the phase's own effect: the press's hold is released, the
OPENED notice is set, and a held close is re-examined (R110, R117, R138). -/
def pressOpened (sh : Shot) (s : State) : State :=
  reexamine (setNotice .handler (.opened sh.number sh.phase) (releasePress s))

/-- OPENED (R117). -/
def opened (s : State) : State × Answer :=
  match s.shc.press with
  | none => (s, .bare .badState)
  | some sh =>
    match sh.phase with
    | .closing => (pressOpened sh (implicitAbort sh s), .bare .ok)
    | .bumping => (pressOpened sh (implicitAbort sh s), .bare .ok)
    | .aborted => (pressOpened sh (freePress s), .bare .ok)
    | .curing => (pressOpened sh (openMould sh true s), .bare .ok)
    | .cured => (pressOpened sh (openMould sh false s), .bare .ok)
    | .assembling | .opened => (s, .bare .ok)

/-- The meaning of OPENED (R117). -/
def execOpened (p : Port) (s : State) : Host.Outcome State Fault Refusal :=
  .next (transact p .opened opened s)

/-! ### Abort and production reset -/

/-- The sequences an abort of a shot seals, as a reply carries them, in cavity order (R118; DESIGN CHOICE, log entry 34). -/
def sealedReply (sh : Shot) : List Byte :=
  beList ((sealSequences sh.enabled).map (be 4))

/-- ABORT SHOT of the press-side shot (R118). -/
def abortPressSide (sh : Shot) (s : State) : State × Answer :=
  match sh.phase with
  | .closing => (abortPress sh s, ⟨.ok, sealedReply sh⟩)
  | .bumping => (abortPress sh s, ⟨.ok, sealedReply sh⟩)
  | .assembling | .curing | .cured | .opened | .aborted => (s, .bare .badState)

/-- ABORT SHOT of a shot that is not the assembling one (R118). -/
def abortOther (number : Nat) (s : State) : State × Answer :=
  match s.shc.press with
  | none => (s, .bare .badArgument)
  | some sh => if sh.number = number then abortPressSide sh s else (s, .bare .badArgument)

/-- ABORT SHOT (R118). -/
def abortShot (shot : BitVec 32) (s : State) : State × Answer :=
  match s.shc.assembling with
  | none => abortOther shot.toNat s
  | some sh =>
    if sh.number = shot.toNat then (abortAssembling sh .aborted s, ⟨.ok, sealedReply sh⟩) else abortOther shot.toNat s

/-- The meaning of ABORT SHOT (R118). -/
def execAbortShot (p : Port) (shot : BitVec 32) (s : State) : Host.Outcome State Fault Refusal :=
  .next (transact p .abortShot (abortShot shot) s)

/-- Whether a press-side shot is past the point of no return: in CURING, CURED or OPEN (R114, R120). -/
def Phase.committed : Phase → Bool
  | .curing => true
  | .cured => true
  | .opened => true
  | .assembling => false
  | .closing => false
  | .bumping => false
  | .aborted => false

/-- Whether a press-side shot in this phase is aborted by a production reset (R120, step 2). -/
def Phase.abortable : Phase → Bool
  | .closing => true
  | .bumping => true
  | .assembling => false
  | .curing => false
  | .cured => false
  | .opened => false
  | .aborted => false

/-- The press-side shot that a production reset aborts, if any (R120). -/
def State.pressToAbort (s : State) : Option Shot :=
  s.shc.press.filter fun sh => sh.phase.abortable

/-- The shots a production reset aborts: the assembling shot, then the press-side shot, as R120 takes its steps. That the reply
lists their numbers in this order is the model's: DESIGN CHOICE, log entry 34. -/
def State.shotsToAbort (s : State) : List Shot :=
  s.shc.assembling.toList ++ s.pressToAbort.toList

/-- The effects of a production reset (R120, steps 1 to 4). -/
def clearProduction (s : State) : State :=
  let s1 := match s.shc.assembling with | none => s | some sh => abortAssembling sh .productionReset s
  let s2 := match s.pressToAbort with | none => s1 | some sh => abortPress sh s1
  endClaim .productionReset (endClose .productionReset s2)

/-- PRODUCTION RESET (R120). -/
def productionReset (s : State) : State × Answer :=
  if s.shc.press.any fun sh => sh.phase.committed then (s, .bare .badState)
  else (clearProduction s, ⟨.ok, beList (s.shotsToAbort.map fun sh => be 4 sh.number)⟩)

/-- The meaning of PRODUCTION RESET (R120). -/
def execProductionReset (p : Port) (s : State) : Host.Outcome State Fault Refusal :=
  .next (transact p .productionReset productionReset s)

/-- READ SHOTS (R121). -/
def readShots (s : State) : State × Answer :=
  (s, ⟨.ok, s.shotsReply⟩)

/-- The meaning of READ SHOTS (R121). -/
def execReadShots (p : Port) (s : State) : Host.Outcome State Fault Refusal :=
  .next (transact p .readShots readShots s)

end Sys2Proof.Machine
end

