-- ==== Sys2Proof/Machine/Demoulding.lean ====
section
/-! DEFINITION. The demould interlock: the handler's and the press's hold on the mould space (R136 to R139), the demould
protocol (R141 to R147), the demould window (R148) and READ DEMOULD (R149). -/

namespace Sys2Proof.Machine

/-! ### The lock -/

/-- The lock passes to the handler from FREE (R136). -/
def takeLock (s : State) : State :=
  reexamine { s with dmi := { s.dmi with holder := .handler } }

/-- The handler's claim is held pending, with its run-second (R136). -/
def holdClaim (s : State) : State :=
  { s with dmi := { s.dmi with claim := some s.clock } }

/-- ZONE CLAIM (R136). -/
def zoneClaim (s : State) : State × Answer :=
  match s.dmi.holder with
  | .free => (takeLock s, .bare .ok)
  | .handler => (s, .bare .ok)
  | .press => if s.dmi.claim.isSome then (s, .bare .held) else (holdClaim s, .bare .held)

/-- The meaning of ZONE CLAIM (R136). -/
def execZoneClaim (p : Port) (s : State) : Host.Outcome State Fault Refusal :=
  .next (transact p .zoneClaim zoneClaim s)

/-- ZONE RELEASE (R137). -/
def zoneRelease (s : State) : State × Answer :=
  match s.dmi.holder with
  | .handler => (reexamine (handlerLetsGo s), .bare .ok)
  | .press => (endClaim .withdrawn s, .bare .ok)
  | .free => (s, .bare .ok)

/-- The meaning of ZONE RELEASE (R137). -/
def execZoneRelease (p : Port) (s : State) : Host.Outcome State Fault Refusal :=
  .next (transact p .zoneRelease zoneRelease s)

/-- Whether a cavity's part is still in the open mould: CURING or STUCK (R139, R148). -/
def Cavity.untaken (c : Cavity) : Bool :=
  c.state == .curing || c.state == .stuck

/-- The untaken cavities of the press-side shot in OPEN, in ascending order. -/
def State.untakenCavities (s : State) : List (Fin 4) :=
  match s.pressIn .opened with
  | none => []
  | some sh => (sh.enabled.filter fun x => x.2.untaken).map Prod.fst

/-- The flags of every untaken cavity of the press-side shot in OPEN changed. -/
def flagUntaken (f : CavityFlags → CavityFlags) (s : State) : State :=
  match s.pressIn .opened with
  | none => s
  | some sh => s.setPress (sh.mapEnabled fun _ c => if c.untaken then { c with flags := f c.flags } else c)

/-- The lock taken back from the handler (R139, steps 1 to 5). -/
def reclaim (s : State) : State :=
  let s1 := endEject .reclaimed (handlerLetsGo s)
  let s2 := flagUntaken (fun f => { f with forcedRelease := true }) s1
  reexamine (setNotice .handler (.lockReclaimed s.clock s.untakenCavities.length) s2)

/-- ZONE RECLAIM (R139). -/
def zoneReclaim (s : State) : State × Answer :=
  if s.dmi.holder = .handler then (reclaim s, .bare .ok) else (s, .bare .badState)

/-- The meaning of ZONE RECLAIM (R139). -/
def execZoneReclaim (p : Port) (s : State) : Host.Outcome State Fault Refusal :=
  .next (transact p .zoneReclaim zoneReclaim s)

/-! ### The demould protocol -/

/-- The demould state replaced. -/
def State.setDemould (s : State) (d : Demould) : State :=
  { s with dmi := { s.dmi with demould := some d } }

/-- The press-side shot in OPEN with its demould state (R140). -/
def State.opening (s : State) : Option (Shot × Demould) :=
  match s.pressIn .opened, s.dmi.demould with
  | some sh, some d => some (sh, d)
  | _, _ => none

/-- ENGAGED set where it was not, and a held eject granted (R141). -/
def engage (sh : Shot) (d : Demould) (s : State) : State :=
  let d' := { d with engaged := true, engageMark := d.count, grant := d.grant || d.heldEject, heldEject := false }
  if d.heldEject then
    setNotice .press (.ejectGranted sh.number)
      { s.setDemould d' with ports := { s.ports with ejectOutcome := some .granted } }
  else s.setDemould d'

/-- ENGAGED (R141). -/
def engaged (s : State) : State × Answer :=
  match s.opening with
  | none => (s, .bare .badState)
  | some (sh, d) =>
    if s.dmi.holder = .handler then
      if d.engaged then (s, .bare .ok) else (engage sh d s, .bare .ok)
    else (s, .bare .badState)

/-- The meaning of ENGAGED (R141). -/
def execEngaged (p : Port) (s : State) : Host.Outcome State Fault Refusal :=
  .next (transact p .engaged engaged s)

/-- EJECT (R142). -/
def eject (s : State) : State × Answer :=
  match s.opening with
  | none => (s, .bare .badState)
  | some (_, d) =>
    if 65535 ≤ d.count then (s, .bare .badState)
    else if d.grant then (s, .bare .ok)
    else if d.engaged then (s.setDemould { d with grant := true }, .bare .ok)
    else if d.heldEject then (s, .bare .held)
    else (s.setDemould { d with heldEject := true }, .bare .held)

/-- The meaning of EJECT (R142). -/
def execEject (p : Port) (s : State) : Host.Outcome State Fault Refusal :=
  .next (transact p .eject eject s)

/-- EJECTED (R144). -/
def ejected (s : State) : State × Answer :=
  match s.opening with
  | none => (s, .bare .badState)
  | some (sh, d) =>
    if d.grant then
      (setNotice .handler (.ejected sh.number (d.count + 1)) (s.setDemould { d with grant := false, count := d.count + 1 }),
        ⟨.ok, be 2 (d.count + 1)⟩)
    else (s, .bare .badState)

/-- The meaning of EJECTED (R144). -/
def execEjected (p : Port) (s : State) : Host.Outcome State Fault Refusal :=
  .next (transact p .ejected ejected s)

/-- The cavity a take report binds: the handler holds the lock, the press-side shot is in OPEN with ENGAGED standing, and
the cavity is CURING and ready to report (R145). -/
def State.takeable (s : State) (k : Fin 4) : Option (Shot × Demould × Cavity) :=
  match s.opening, s.pressCavity k with
  | some (sh, d), some c =>
    if s.dmi.holder = .handler ∧ d.engaged = true ∧ c.state = .curing ∧ d.readyToReport c = true then some (sh, d, c)
    else none
  | _, _ => none

/-- The cure accounting of a cavity stopped, its fields standing (R124, R145, R147). -/
def Cavity.stopCure (c : Cavity) : Cavity :=
  { c with cure := c.cure.map fun u => { u with accounting := false } }

/-- The demould latency of a take now (R145). -/
def takeLatency (sh : Shot) (now : Nat) : Nat :=
  elapsed now (sh.times.opening.getD 0)

/-- A cavity whose part is taken (R145, steps 1 to 3). -/
def Cavity.taken (c : Cavity) (now latency : Nat) : Cavity :=
  { c.stopCure with
    state := .taken, attempts := some (c.attempts.getD 0 + 1), takeTime := some now, latency := some latency }

/-- PART TAKEN (R145). -/
def partTaken (cavity : BitVec 8) (s : State) : State × Answer :=
  match inRange 4 cavity with
  | none => (s, .bare .badArgument)
  | some k =>
    match s.takeable k with
    | none => (s, .bare .badState)
    | some (sh, _, c) =>
      let l := takeLatency sh s.clock
      (sealIfOut (s.modifyPress fun x => x.modifyCavity k fun v => v.taken s.clock l),
        ⟨.ok, beOpt 4 c.part ++ be 4 l⟩)

/-- The meaning of PART TAKEN (R145). -/
def execPartTaken (p : Port) (cavity : BitVec 8) (s : State) : Host.Outcome State Fault Refusal :=
  .next (transact p .partTaken (partTaken cavity) s)

/-- Whether a failed take brings a cavity to the recipe's take attempt limit (R146). -/
def State.atTakeLimit (s : State) (c : Cavity) : Bool :=
  s.recipe.any fun r => c.attempts.getD 0 + 1 == r.takeLimit

/-- A cavity whose take has failed (R146). -/
def Cavity.failed (c : Cavity) (count : Nat) (stuck : Bool) : Cavity :=
  { c with
    attempts := some (c.attempts.getD 0 + 1), failMark := some count
    state := if stuck then .stuck else c.state }

/-- TAKE FAIL (R146). -/
def takeFail (cavity : BitVec 8) (s : State) : State × Answer :=
  match inRange 4 cavity with
  | none => (s, .bare .badArgument)
  | some k =>
    match s.takeable k with
    | none => (s, .bare .badState)
    | some (sh, d, c) =>
      let n := c.attempts.getD 0 + 1
      let s1 := s.modifyPress fun x => x.modifyCavity k fun v => v.failed d.count (s.atTakeLimit c)
      if s.atTakeLimit c then
        (setNotice .press (.stuck sh.number k.val n) s1, ⟨.ok, be 1 CavityState.stuck.code ++ be 1 n⟩)
      else (s1, ⟨.ok, be 1 CavityState.curing.code ++ be 1 n⟩)

/-- The meaning of TAKE FAIL (R146). -/
def execTakeFail (p : Port) (cavity : BitVec 8) (s : State) : Host.Outcome State Fault Refusal :=
  .next (transact p .takeFail (takeFail cavity) s)

/-- The disposition a CLEAR CAVITY gives, where its operand is one (R147, Table 11.1). -/
def clearDisposition (d : BitVec 8) : Option ClearDisposition :=
  match d.toNat with
  | 0 => some .scrap
  | 1 => some .suspect
  | _ => none

/-- A cavity cleared by the press controller (R147, steps 1 to 3). -/
def Cavity.cleared (c : Cavity) (d : ClearDisposition) : Cavity :=
  { c.stopCure with state := .cleared, clear := some d, flags := { c.flags with stuckCleared := true } }

/-- CLEAR CAVITY (R147). -/
def clearCavity (cavity disposition : BitVec 8) (s : State) : State × Answer :=
  match inRange 4 cavity, clearDisposition disposition with
  | some k, some d =>
    match s.pressIn .opened, s.pressCavity k with
    | some _, some c =>
      if c.untaken && s.dmi.holder != .press then
        (sealIfOut (s.modifyPress fun x => x.modifyCavity k fun v => v.cleared d), .bare .ok)
      else (s, .bare .badState)
    | _, _ => (s, .bare .badState)
  | _, _ => (s, .bare .badArgument)

/-- The meaning of CLEAR CAVITY (R147). -/
def execClearCavity (p : Port) (cavity disposition : BitVec 8) (s : State) : Host.Outcome State Fault Refusal :=
  .next (transact p .clearCavity (clearCavity cavity disposition) s)

/-! ### The demould window -/

/-- The shot whose demould window runs out at the run-second now running, with its demould state (R148). -/
def State.lateDemould (s : State) : Option (Shot × Demould) :=
  s.opening.filter fun x => !x.2.lateGiven && decide (x.2.deadline ≤ s.clock)

/-- The demould window runs out (R148). -/
def endWindow (s : State) : State :=
  match s.lateDemould with
  | none => s
  | some (sh, d) =>
    let b := NoticeBody.demouldLate sh.number (s.untakenCavities.map fun k => k.val)
    let s1 := (flagUntaken (fun f => { f with demouldLate := true }) s).setDemould { d with lateGiven := true }
    setNotice .handler b (setNotice .press b s1)

/-- The meaning of the demould window running out (R148). -/
def execDemouldLate (s : State) : Host.Outcome State Fault Refusal :=
  .next (endWindow s)

/-- READ DEMOULD (R149). -/
def readDemould (s : State) : State × Answer :=
  (s, ⟨.ok, s.demouldReply⟩)

/-- The meaning of READ DEMOULD (R149). -/
def execReadDemould (p : Port) (s : State) : Host.Outcome State Fault Refusal :=
  .next (transact p .readDemould readDemould s)

end Sys2Proof.Machine
end

