-- ==== Sys2Proof/Machine/CureWork.lean ====
section
/-! DEFINITION. The step of the run clock (R124): the counting of cure (R125 to R130), its declaration (R131), and the work
of deadlines that the second now ending has left undone. READ CURE (R133). -/

namespace Sys2Proof.Machine

/-! ### The rate -/

/-- The rate between two neighbouring breakpoints (R127). -/
def interpolate (a b : Breakpoint) (t : Int) : Nat :=
  ((a.rate : Int) + ((t - a.temp) * ((b.rate : Int) - a.rate)).tdiv (b.temp - a.temp)).toNat

/-- The rate of an effective temperature in a rate table (R127). -/
def rateOf : List Breakpoint → Int → Nat
  | [], _ => 0
  | [b], t => if t < b.temp then 0 else b.rate
  | a :: b :: rest, t =>
    if t < a.temp then 0 else if t < b.temp then interpolate a b t else rateOf (b :: rest) t

/-! ### One second of one cavity -/

/-- Whether a cavity is accounted, from its shot's phase and its own state (R124). -/
def accounted (ph : Phase) (st : CavityState) : Bool :=
  match ph with
  | .curing => st == .curing
  | .cured => st == .curing
  | .opened => st == .curing || st == .stuck
  | .assembling => false
  | .closing => false
  | .bumping => false
  | .aborted => false

/-- Whether a second is blind for a zone mask: a zone of it is not judged OK (R125). -/
def State.blindMask (s : State) (m : BitVec 12) : Bool :=
  (maskZones m).any fun z => s.judged z != .ok

/-- The effective temperature of a zone mask: the least of its zones' measured temperatures (R126). -/
def State.effective (s : State) (m : BitVec 12) : Option Int :=
  ((maskZones m).map fun z => (s.msq.tc.get z).value).min?

/-- Whether a zone of a mask is cut in the frame last loaded (R130). -/
def State.cutMask (s : State) (m : BitVec 12) : Bool :=
  (maskZones m).any fun z => (s.hbo.shares.get z).cut

/-- The extremes and figures of a counted second (R128, R129). -/
def Cure.counted (u : Cure) (t : Int) (r : Nat) : Cure :=
  { u with
    index := min Config.maxWord (u.index + r)
    minT := some (match u.minT with | none => t | some m => min m t)
    maxT := some (match u.maxT with | none => t | some m => max m t)
    last := some (t, r) }

/-- The figures of a blind second (R125, R133). -/
def Cure.blinded (u : Cure) : Cure :=
  { u with blind := min 65535 (u.blind + 1), last := none }

/-- The figures of every accounted second: its cure second, and a throttled second where a zone is cut (R125, R128, R130). -/
def Cure.passed (u : Cure) (cut : Bool) : Cure :=
  { u with
    seconds := min Config.maxWord (u.seconds + 1)
    throttled := if cut then min 65535 (u.throttled + 1) else u.throttled }

/-- One accounted second of a cavity's cure fields, for its zone mask and rate table (R125 to R130). -/
def State.countCure (s : State) (m : BitVec 12) (rates : List Breakpoint) (u : Cure) : Cure :=
  match s.blindMask m, s.effective m with
  | false, some t => (u.counted t (rateOf rates t)).passed (s.cutMask m)
  | _, _ => u.blinded.passed (s.cutMask m)

/-- One second of a cavity of a shot in a phase, for a recipe (R124). -/
def State.countCavity (s : State) (r : Recipe) (ph : Phase) (k : Fin 4) (c : Cavity) : Cavity :=
  if accounted ph c.state then { c with cure := c.cure.map (s.countCure (r.cavities.get k).mask r.rates.toList) } else c

/-- The accountant's work for the press-side shot (R124). -/
def countShot (s : State) : State :=
  match s.recipe with
  | none => s
  | some r => s.modifyPress fun sh => sh.mapEnabled fun k c => s.countCavity r sh.phase k c

/-! ### The declaration -/

/-- Each enabled cavity's number and cure index (R131). -/
def Shot.indices (sh : Shot) : List (Nat × Nat) :=
  sh.enabled.map fun x => (x.1.val, (x.2.cure.map Cure.index).getD 0)

/-- The shot that is declared cured now: in CURING, every enabled cavity's index at or above the target (R131). -/
def State.curedShot (s : State) : Option Shot :=
  match s.recipe with
  | none => none
  | some r => (s.pressIn .curing).filter fun sh => sh.indices.all fun x => decide (r.cureTarget ≤ x.2)

/-- A held open is granted at the declaration of cure (R115). -/
def grantOpen (s : State) : State :=
  match s.shc.heldOpen with
  | none => s
  | some n =>
    setNotice .press (.openGranted n)
      { s with
        shc := { s.shc with heldOpen := none }
        ports := { s.ports with openOutcome := some .granted } }

/-- The declaration of cure, where it is due: the phase and its time, the grant of a held open, then the CURED notice
(R115, R131; log entry 17). -/
def declareCure (s : State) : State :=
  match s.curedShot with
  | none => s
  | some sh =>
    setNotice .press (.cured sh.number s.clock sh.indices)
      (grantOpen (s.setPress { sh with phase := .cured, times := { sh.times with cured := some s.clock } }))

/-! ### The step of the run clock -/

/-- Every entry of the lot table past its aging period is removed (R83). -/
def ageLots (s : State) : State :=
  s.withLots (s.ltr.lots.filter fun l => !s.lotOld l)

/-- Every rack record at its out-deadline is marked, each with its notice (R90). -/
def expireCharges (s : State) : State :=
  (s.ltr.rack.map fun r => r.charge.id).foldl (fun st i => expireCharge i st) s

/-- The deadlines of the run-second now ending whose events have not been taken: each has its effect in that second, before
the clock moves on (log entry 7). -/
def finishSecond (s : State) : State :=
  let s1 := timeoutCapture 1 (timeoutCapture 0 (timeoutTare 1 (timeoutTare 0 s)))
  ageLots (endStandbyWait (endWindow (examineDeadlines (expireCharges s1))))

/-- The run clock at its new value, and the standby delay and aging period that the new second's examinations use
(R16, R84, R124; log entries 3 and 8). -/
def advanceClock (s : State) : State :=
  let t := fitWord (s.clock + 1) s
  { t.2 with
    clock := t.1
    zct := { t.2.zct with stepDelay := t.2.zct.standbyDelay }
    ltr := { t.2.ltr with stepAging := t.2.ltr.agingPeriod } }

/-- The step of the run clock to a new second, with the accountant's work at it (R124, R131). -/
def secondStep (s : State) : State :=
  declareCure (countShot (advanceClock (finishSecond s)))

/-- The meaning of the run clock's step (R124). -/
def execRunSecond (s : State) : Host.Outcome State Fault Refusal :=
  .next (secondStep s)

/-- READ CURE (R133). -/
def readCure (s : State) : State × Answer :=
  (s, ⟨.ok, s.cureReply⟩)

/-- The meaning of READ CURE (R133). -/
def execReadCure (p : Port) (s : State) : Host.Outcome State Fault Refusal :=
  .next (transact p .readCure readCure s)

end Sys2Proof.Machine
end

