-- ==== Sys2Proof/Machine/History.lean ====
section
/-! DEFINITION. The history ring's requests: HISTORY SETUP (R155), SET TIME (R158), FETCH (R162, R164) and COLLECT (R165). -/

namespace Sys2Proof.Machine

/-- HISTORY SETUP (R155). -/
def historySetup (lowMark : BitVec 8) (s : State) : State × Answer :=
  let v := clampNat 0 128 lowMark.toNat
  (compareLow { s with hrg := { s.hrg with lowMark := v } },
    ⟨setupStatus (v ≠ lowMark.toNat), be 1 v ++ be 2 s.available⟩)

/-- The meaning of HISTORY SETUP (R155). -/
def execHistorySetup (p : Port) (lowMark : BitVec 8) (s : State) : Host.Outcome State Fault Refusal :=
  .next (transact p .historySetup (historySetup lowMark) s)

/-- The wall offset that a plant time gives now (R158). -/
def State.offsetFor (s : State) (plant : Nat) : Nat :=
  (((plant : Int) - (s.clock : Int)) % 4294967296).toNat

/-- SET TIME (R158). -/
def setTime (plant : BitVec 32) (s : State) : State × Answer :=
  let w := s.offsetFor plant.toNat
  ({ s with hrg := { s.hrg with wallOffset := w, wallSet := true } }, ⟨.ok, be 4 w⟩)

/-- The meaning of SET TIME (R158). -/
def execSetTime (p : Port) (plant : BitVec 32) (s : State) : Host.Outcome State Fault Refusal :=
  .next (transact p .setTime (setTime plant) s)

/-- FETCH (R162), with the hold mark putting the port into held fetch (R164). -/
def fetch (start : BitVec 32) (count hold : BitVec 8) (s : State) : State × Answer :=
  (if hold = 0 then s
    else { s with ports := { s.ports with heldFetch := some (s.fetchNext start.toNat count.toNat) } },
    s.fetchAnswer start.toNat count.toNat)

/-- The meaning of FETCH (R162). -/
def execFetch (p : Port) (start : BitVec 32) (count hold : BitVec 8) (s : State) : Host.Outcome State Fault Refusal :=
  .next (transact p .fetch (fetch start count hold) s)

/-- A slot after a COLLECT up to a sequence number (R165). -/
def Slot.collect (upTo : Nat) : Slot → Slot
  | .sealed q r => if q ≤ upTo then .collected q r else .sealed q r
  | .free => .free
  | .reserved q => .reserved q
  | .collected q r => .collected q r
  | .void q => .void q

/-- Whether a COLLECT up to a sequence number collects a slot (R165). -/
def Slot.collectable (upTo : Nat) : Slot → Bool
  | .sealed q _ => decide (q ≤ upTo)
  | .free => false
  | .reserved _ => false
  | .collected _ _ => false
  | .void _ => false

/-- Every SEALED slot at or below a sequence number becomes COLLECTED, and the count is compared (R154, R165). -/
def collectUpTo (upTo : Nat) (s : State) : State :=
  compareLow { s with hrg := { s.hrg with slots := s.hrg.slots.mapIdx fun _ x => x.collect upTo } }

/-- How many slots a COLLECT collects (R165). -/
def State.collectCount (s : State) (upTo : Nat) : Nat :=
  (s.hrg.slots.toList.filter (Slot.collectable upTo)).length

/-- COLLECT (R165). -/
def collect (sequence : BitVec 32) (s : State) : State × Answer :=
  let n := min s.newest sequence.toNat
  let s1 := collectUpTo n s
  (s1, ⟨setupStatus (s.newest < sequence.toNat), be 2 (s.collectCount n) ++ be 2 s1.available ++ be 4 s1.oldest⟩)

/-- The meaning of COLLECT (R165). -/
def execCollect (p : Port) (sequence : BitVec 32) (s : State) : Host.Outcome State Fault Refusal :=
  .next (transact p .collect (collect sequence) s)

end Sys2Proof.Machine
end

