-- ==== Sys2Proof/Machine/PortRequests.lean ====
section
/-! DEFINITION. The ports' own requests (R169, R173 to R176), and the transactions that reach no owner: one cut short
(R168), an unknown command (R169), and the count of held fetch (R164). -/

namespace Sys2Proof.Machine

/-- NO OPERATION (R169). -/
def noOperation (s : State) : State × Answer :=
  (s, .bare .ok)

/-- The meaning of NO OPERATION (R169). -/
def execNoOperation (p : Port) (s : State) : Host.Outcome State Fault Refusal :=
  .next (transact p .noOperation noOperation s)

/-- STATUS on a port (R174). -/
def status (p : Port) (s : State) : State × Answer :=
  (s, ⟨.ok, s.statusReply p⟩)

/-- The meaning of STATUS (R174). -/
def execStatus (p : Port) (s : State) : Host.Outcome State Fault Refusal :=
  .next (transact p .status (status p) s)

/-- READ NOTICES on a port (R173). -/
def readNotices (p : Port) (count : BitVec 8) (s : State) : State × Answer :=
  let n := clampNat 1 32 count.toNat
  let q := s.ports.get p
  (s.modifyPort p fun x => { x with notices := x.notices.drop n, lost := false },
    ⟨setupStatus (n ≠ count.toNat), noticesReply (q.notices.take n) (q.notices.drop n).length q.lost⟩)

/-- The meaning of READ NOTICES (R173). -/
def execReadNotices (p : Port) (count : BitVec 8) (s : State) : Host.Outcome State Fault Refusal :=
  .next (transact p .readNotices (readNotices p count) s)

/-- PORT SETUP on a port (R175). -/
def portSetup (p : Port) (turnaround : BitVec 8) (s : State) : State × Answer :=
  let v := clampNat 1 4 turnaround.toNat
  (s.modifyPort p fun x => { x with turnaround := v }, ⟨setupStatus (v ≠ turnaround.toNat), be 1 v⟩)

/-- The meaning of PORT SETUP (R175). -/
def execPortSetup (p : Port) (turnaround : BitVec 8) (s : State) : Host.Outcome State Fault Refusal :=
  .next (transact p .portSetup (portSetup p turnaround) s)

/-- The held requests of a port ended at its reset, each with the outcome PORT_RESET (R176, step 3). -/
def endHeld (p : Port) (s : State) : State :=
  match p with
  | .press => endEject .portReset (endOpen .portReset (endClose .portReset s))
  | .handler => endClaim .portReset s
  | .charge => s
  | .trace => s

/-- How many held requests a port has (R176). -/
def State.heldCount (s : State) (p : Port) : Nat :=
  match p with
  | .press =>
    s.shc.heldClose.toList.length + s.shc.heldOpen.toList.length
      + (if s.dmi.demould.any fun d => d.heldEject then 1 else 0)
  | .handler => s.dmi.claim.toList.length
  | .charge => 0
  | .trace => 0

/-- A port's turnaround and notice set at its reset (R176, steps 1 and 2). -/
def PortState.cleared (q : PortState) : PortState :=
  { q with turnaround := 1, notices := [], lost := false }

/-- PORT RESET on a port (R176). -/
def portReset (p : Port) (s : State) : State × Answer :=
  (endHeld p (s.modifyPort p PortState.cleared), ⟨.ok, be 1 (s.heldCount p)⟩)

/-- The meaning of PORT RESET (R176). -/
def execPortReset (p : Port) (s : State) : Host.Outcome State Fault Refusal :=
  .next (transact p .portReset (portReset p) s)

/-- A transaction discarded as truncated (R168). In held fetch the one byte is the count, so there is none to discard. -/
def truncated (p : Port) (s : State) : State :=
  if s.inHeldFetch p then s else s.modifyPort p fun q => { q with lastStatus := some .truncated }

/-- The meaning of a transaction cut short (R168). -/
def execTransactionTruncated (p : Port) (s : State) : Host.Outcome State Fault Refusal :=
  .next (truncated p s)

/-- A command byte that names no command (R169); in held fetch it is a count (R164). -/
def unknown (p : Port) (b : Byte) (s : State) : State :=
  if s.inHeldFetch p then takeCount b.toNat s else answer p (s.ports.get p).turnaround (.bare .unknownCommand) s

/-- The meaning of a command byte that names no command (R169). -/
def execUnknownCommand (p : Port) (b : Byte) (s : State) : Host.Outcome State Fault Refusal :=
  .next (unknown p b s)

/-- The owner of a one-byte request of the trace port (10.3). -/
def traceOwner (c : Command) : State → State × Answer :=
  if c = .readLots then readLots
  else if c = .readCure then readCure
  else if c = .status then status .trace
  else if c = .portReset then portReset .trace
  else noOperation

/-- A one-byte transaction on the trace port outside held fetch: its byte is a command byte (R164, R167 to R169). -/
def oneByte (b : Byte) (s : State) : State :=
  match Command.ofByte b with
  | none => unknown .trace b s
  | some c => if 0 < c.row.operandBytes then truncated .trace s else transact .trace c (traceOwner c) s

/-- The meaning of the count of held fetch (R164). -/
def execHeldFetchCount (count : Byte) (s : State) : Host.Outcome State Fault Refusal :=
  .next (if s.inHeldFetch .trace then takeCount count.toNat s else oneByte count s)

end Sys2Proof.Machine
end

