-- ==== Sys2Proof/Machine/Dispatch.lean ====
section
/-! DEFINITION. The dispatch: one arm per command, each one direct call of its meaning. -/

namespace Sys2Proof.Machine

/-- What a command does to the part, its queue apart. -/
def exec (i : Instr) (s : State) : Host.Outcome State Fault Refusal :=
  match i with
  | .pinReset => Sys2Proof.Machine.execPinReset s
  | .runSecond => Sys2Proof.Machine.execRunSecond s
  | .thermocoupleResult channel status value => Sys2Proof.Machine.execThermocoupleResult channel status value s
  | .loadCellResult channel status count => Sys2Proof.Machine.execLoadCellResult channel status count s
  | .replyLimitExpiry link => Sys2Proof.Machine.execReplyLimitExpiry link s
  | .unusableReply link why => Sys2Proof.Machine.execUnusableReply link why s
  | .zeroCross => Sys2Proof.Machine.execZeroCross s
  | .frameBoundary => Sys2Proof.Machine.execFrameBoundary s
  | .mainsLost => Sys2Proof.Machine.execMainsLost s
  | .loadedChargeDeadline => Sys2Proof.Machine.execLoadedChargeDeadline s
  | .standbyWaitEnd => Sys2Proof.Machine.execStandbyWaitEnd s
  | .tareSettled scale count => Sys2Proof.Machine.execTareSettled scale count s
  | .tareTimeout scale => Sys2Proof.Machine.execTareTimeout scale s
  | .plySettled scale count => Sys2Proof.Machine.execPlySettled scale count s
  | .captureTimeout scale => Sys2Proof.Machine.execCaptureTimeout scale s
  | .lotAged lot => Sys2Proof.Machine.execLotAged lot s
  | .chargeExpired charge => Sys2Proof.Machine.execChargeExpired charge s
  | .demouldLate => Sys2Proof.Machine.execDemouldLate s
  | .transactionTruncated port => Sys2Proof.Machine.execTransactionTruncated port s
  | .unknownCommand port byte => Sys2Proof.Machine.execUnknownCommand port byte s
  | .heldFetchCount count => Sys2Proof.Machine.execHeldFetchCount count s
  | .noOperation port => Sys2Proof.Machine.execNoOperation port s
  | .readZones port => Sys2Proof.Machine.execReadZones port s
  | .measureSetup port limit => Sys2Proof.Machine.execMeasureSetup port limit s
  | .zoneSetup port zone power bias band gain idle trip => Sys2Proof.Machine.execZoneSetup port zone power bias band gain idle trip s
  | .heatSetup port band delay setback => Sys2Proof.Machine.execHeatSetup port band delay setback s
  | .zoneMode port zone mode demand frames => Sys2Proof.Machine.execZoneMode port zone mode demand frames s
  | .clearZoneFault port zone => Sys2Proof.Machine.execClearZoneFault port zone s
  | .standbyNow port => Sys2Proof.Machine.execStandbyNow port s
  | .wake port => Sys2Proof.Machine.execWake port s
  | .budgetSetup port base hysteresis frameLength => Sys2Proof.Machine.execBudgetSetup port base hysteresis frameLength s
  | .setCurtail port watts => Sys2Proof.Machine.execSetCurtail port watts s
  | .setGain port scale gain => Sys2Proof.Machine.execSetGain port scale gain s
  | .scaleSetup port scale band count timeout minPly validity => Sys2Proof.Machine.execScaleSetup port scale band count timeout minPly validity s
  | .tare port scale => Sys2Proof.Machine.execTare port scale s
  | .weighStart port scale group => Sys2Proof.Machine.execWeighStart port scale group s
  | .addPly port scale => Sys2Proof.Machine.execAddPly port scale s
  | .closeCharge port scale => Sys2Proof.Machine.execCloseCharge port scale s
  | .discard port scale => Sys2Proof.Machine.execDiscard port scale s
  | .scaleStatus port scale => Sys2Proof.Machine.execScaleStatus port scale s
  | .declareLot port scale lot material minutes => Sys2Proof.Machine.execDeclareLot port scale lot material minutes s
  | .lotSetup port period => Sys2Proof.Machine.execLotSetup port period s
  | .readLots port => Sys2Proof.Machine.execReadLots port s
  | .discardCharge port charge => Sys2Proof.Machine.execDiscardCharge port charge s
  | .readQueue port => Sys2Proof.Machine.execReadQueue port s
  | .takeCharge port cavity => Sys2Proof.Machine.execTakeCharge port cavity s
  | .returnCharge port cavity => Sys2Proof.Machine.execReturnCharge port cavity s
  | .writeRecipe port slot body => Sys2Proof.Machine.execWriteRecipe port slot body s
  | .readRecipe port slot => Sys2Proof.Machine.execReadRecipe port slot s
  | .mountMould port slot => Sys2Proof.Machine.execMountMould port slot s
  | .unmount port => Sys2Proof.Machine.execUnmount port s
  | .setStation port station => Sys2Proof.Machine.execSetStation port station s
  | .armShot port mask => Sys2Proof.Machine.execArmShot port mask s
  | .loaded port cavity => Sys2Proof.Machine.execLoaded port cavity s
  | .removeCharge port cavity => Sys2Proof.Machine.execRemoveCharge port cavity s
  | .close port => Sys2Proof.Machine.execClose port s
  | .withdrawClose port => Sys2Proof.Machine.execWithdrawClose port s
  | .closed port => Sys2Proof.Machine.execClosed port s
  | .bump port => Sys2Proof.Machine.execBump port s
  | .pressure port => Sys2Proof.Machine.execPressure port s
  | .openPress port => Sys2Proof.Machine.execOpenPress port s
  | .opened port => Sys2Proof.Machine.execOpened port s
  | .abortShot port shot => Sys2Proof.Machine.execAbortShot port shot s
  | .productionReset port => Sys2Proof.Machine.execProductionReset port s
  | .readShots port => Sys2Proof.Machine.execReadShots port s
  | .readCure port => Sys2Proof.Machine.execReadCure port s
  | .zoneClaim port => Sys2Proof.Machine.execZoneClaim port s
  | .zoneRelease port => Sys2Proof.Machine.execZoneRelease port s
  | .zoneReclaim port => Sys2Proof.Machine.execZoneReclaim port s
  | .engaged port => Sys2Proof.Machine.execEngaged port s
  | .eject port => Sys2Proof.Machine.execEject port s
  | .ejected port => Sys2Proof.Machine.execEjected port s
  | .partTaken port cavity => Sys2Proof.Machine.execPartTaken port cavity s
  | .takeFail port cavity => Sys2Proof.Machine.execTakeFail port cavity s
  | .clearCavity port cavity disposition => Sys2Proof.Machine.execClearCavity port cavity disposition s
  | .readDemould port => Sys2Proof.Machine.execReadDemould port s
  | .historySetup port mark => Sys2Proof.Machine.execHistorySetup port mark s
  | .setTime port plant => Sys2Proof.Machine.execSetTime port plant s
  | .fetch port start count hold => Sys2Proof.Machine.execFetch port start count hold s
  | .collect port sequence => Sys2Proof.Machine.execCollect port sequence s
  | .status port => Sys2Proof.Machine.execStatus port s
  | .readNotices port count => Sys2Proof.Machine.execReadNotices port count s
  | .portSetup port turnaround => Sys2Proof.Machine.execPortSetup port turnaround s
  | .portReset port => Sys2Proof.Machine.execPortReset port s

end Sys2Proof.Machine
end

