-- ==== Sys2Proof/Machine/Step.lean ====
section
/-! DEFINITION. One step of the part: the command at the front of the queue takes its effect (log entry 1). -/

namespace Sys2Proof.Machine

/-- The state without its front command: `s` with the given queue. -/
def State.withPending (s : State) (rest : List Instr) : State :=
  { s with pending := rest }

/-- One step: the front command runs on the state with the queue's rest; on an empty queue the part idles. -/
def step (s : State) : Host.Outcome State Fault Refusal :=
  match s.pending with
  | [] => .next s
  | i :: rest => exec i (s.withPending rest)

/-- The state with the command a table word spells put at the front of its queue; a word that spells none changes
nothing (log entry 6). -/
def State.withFetchWord (s : State) (nbits w : Nat) : State :=
  match decodeTableWord nbits w with
  | none => s
  | some i => s.withPending (i :: s.pending)

end Sys2Proof.Machine
end

