-- ==== Sys2Proof/Safety.lean ====
section
/-! DEFINITION. What counts as a safe state of the part: the promises the handbook makes of every state, in the terms the
statements use. -/

namespace Sys2Proof.Machine

/-! ### Words of the statements -/

/-- The state `t` with port `p`'s reply of a transaction taken at `s`: the answer's status is the port's last status, and
the reply is framed with the turnaround in force at `s` (R167, R170, R175). -/
def State.replied (s : State) (p : Port) (a : Answer) (t : State) : State :=
  t.modifyPort p fun q =>
    { q with lastStatus := some a.status, reply := some ⟨(s.ports.get p).turnaround, a.status, a.fields⟩ }

/-- The next pulse at the zero-cross input is a frame boundary: mains is LOST, or the frame is at its last position
(R48, R51). -/
def State.PulseIsBoundary (s : State) : Prop :=
  s.hbo.mains = .lost ∨ ∀ p, s.hbo.position = some p → s.hbo.frameLength ≤ p + 1

/-- A figure taken to the nearer limit of a range (0.6). -/
def nearest (lo hi v : Nat) : Nat :=
  if v < lo then lo else if hi < v then hi else v

/-- The status of a setup value that was taken to the nearer limit of its range, or was in it (0.6). -/
def clampStatus (lo hi v : Nat) : Status :=
  if lo ≤ v ∧ v ≤ hi then .ok else .clamped

/-- `d` is the figure `sum` wherever it fits 32 bits, and then the counter of free values stays at `before` (log entry 3). -/
def Fits32 (sum before d after : Nat) : Prop :=
  sum ≤ Config.maxWord → d = sum ∧ after = before

/-- The lots of a table after the plies of sealed records have left it and one further use has ended, as judged in the state
`t` after it: each ply's lot is named once less, and a lot whose use ended and that is no longer in use is last seen now
(R79, R85). -/
def State.lotsAfter (t : State) (plies : List Ply) (freed : Option Nat) (lots : List Lot) : List Lot :=
  lots.map fun l =>
    let n := plies.countP fun p => p.lot == l.id
    let m := { l with refs := l.refs - n }
    if (0 < n ∨ freed = some l.id) ∧ t.lotInUse m = false then { m with lastSeen := t.clock } else m

/-- The history ring with a record sealed at the write position under the next number (R152, R157). -/
def Hrg.SealedNext (before after : Hrg) (r : Record) : Prop :=
  after.slots = before.slots.set before.writePos (.sealed before.nextSeq r) ∧
    after.nextSeq = before.nextSeq + 1 ∧ after.writePos = before.writePos + 1 ∧ after.lowMark = before.lowMark ∧
    after.wallOffset = before.wallOffset ∧ after.wallSet = before.wallSet

/-- An answer of a fetch from `start` of at most `count` entries, and the next sequence of a held fetch after it, by the cases
of R162 and R163: below the oldest retained GONE, above the newest issued NONE, each without entries; else the entries from
the start on, at most the count held to 1 to 8 and none after the newest issued, a stub for a RESERVED and for a VOID slot and
the whole record for a SEALED and for a COLLECTED one (R162 to R164, R180, R184). -/
def State.FetchFinds (s : State) (start count : Nat) (a : Answer) (next : Nat) : Prop :=
  let head := fun n : Nat => be 4 s.newest ++ be 4 s.oldest ++ be 2 s.available ++ be 1 n
  (start < s.oldest → a = ⟨.gone, head 0⟩ ∧ next = s.oldest) ∧
    (s.oldest ≤ start → s.newest < start → a = ⟨.none, head 0⟩ ∧ next = start) ∧
    (s.oldest ≤ start → start ≤ s.newest → ∃ (n : Nat) (entries : List (List Byte)),
      n = min (nearest 1 8 count) (s.newest + 1 - start) ∧ next = start + n ∧ entries.length = n ∧
      a = ⟨clampStatus 1 8 count, head n ++ entries.flatten⟩ ∧
      ∀ i q, i < n → start + i = q →
        (s.hrg.slots.get (slotOf q) = .reserved q → entries[i]? = some (be 4 q ++ be 1 1 ++ be 2 0)) ∧
        (s.hrg.slots.get (slotOf q) = .void q → entries[i]? = some (be 4 q ++ be 1 4 ++ be 2 0)) ∧
        (∀ r, s.hrg.slots.get (slotOf q) = .sealed q r →
          entries[i]? = some (be 4 q ++ be 1 2 ++ be 2 r.bytes.length ++ r.bytes)) ∧
        ∀ r, s.hrg.slots.get (slotOf q) = .collected q r →
          entries[i]? = some (be 4 q ++ be 1 3 ++ be 2 r.bytes.length ++ r.bytes))

/-- The state in which a staged record returns to the rack: QUEUED before its out-deadline, EXPIRED after it, and in the
out-deadline's own run-second QUEUED until its expiry has been taken and EXPIRED from then on (R94; log entry 30). -/
def State.ReturnsAs (s : State) (r : RackRecord) (st : RackState) : Prop :=
  let marked := r.state = .expired ∨ ∃ cavity sequence, r.state = .staged cavity sequence true
  (s.clock < r.charge.outDeadline → st = .queued) ∧
    (s.clock = r.charge.outDeadline → ¬ marked → st = .queued) ∧
    (s.clock = r.charge.outDeadline → marked → st = .expired) ∧
    (r.charge.outDeadline < s.clock → st = .expired)

/-- The shots that a production reset aborts: the assembling shot, and the press-side shot in CLOSING or BUMPING (R120). -/
def State.Aborts (s : State) : List Shot :=
  s.shc.assembling.toList ++ (s.shc.press.toList.filter fun sh => sh.phase = .closing ∨ sh.phase = .bumping)

/-- The plies of the charges held in a shot's cavities, each under a reserved number. -/
def Shot.heldPlies (sh : Shot) : List Ply :=
  (heldCavities sh.enabled).flatMap fun x => (x.2.charge.map Charge.plies).getD []

/-- The newest notice at a port is the given one, set now. -/
def State.Newest (t : State) (p : Port) (b : NoticeBody) : Prop :=
  (t.ports.get p).notices.getLast? = some ⟨b, t.clock⟩

/-- The state after notices are set at one port, one after another (R171). -/
def State.told (s : State) (p : Port) (bodies : List NoticeBody) : State :=
  bodies.foldl (fun st b => setNotice p b st) s

/-- The HISTORY_LOW that a comparison sets at the press and at the trace port in the state `t` it leaves: one where the available
count is below the mark and was not at the comparison before, whose finding is `before`, and none elsewhere (R154). -/
def State.newlyLow (t : State) (before : Bool) : List NoticeBody :=
  if t.available < t.hrg.lowMark ∧ before = false then [.historyLow t.available t.newest t.oldest] else []

/-- The RECORDS_READY of an event that seals a shot's charges as SCRAP: one with all their numbers, none where it seals none
(R117, R118, R157). -/
def Shot.readyScraps (sh : Shot) : List NoticeBody :=
  if sealSequences sh.enabled = [] then [] else [.scrapRecords (sealSequences sh.enabled)]

/-- A zone, `x` before a boundary and `y` after it, enters FAULT there: it is in FAULT, and was not already in one that stays,
with no mode change pending and no clear accepted (R18, R21, R22). -/
def Zone.entersFault (x y : Zone) : Bool :=
  y.mode == .fault && !(x.mode == .fault && x.pendingMode.isNone && !x.fault.any fun f => f.clearAccepted)

/-- Cavity `k` of shot `sh` is enabled, with the record `c`. -/
def Shot.Holds (sh : Shot) (k : Fin 4) (c : Cavity) : Prop :=
  sh.cavities.get k = some c

/-- The zones a shot needs: those in the zone mask of an enabled cavity of it (R109). -/
def State.Needs (s : State) (sh : Shot) (z : Fin 12) : Prop :=
  ∃ r k c, s.recipe = some r ∧ sh.Holds k c ∧ (r.cavities.get k).mask.getLsbD z.val = true

/-- The state with the press's hold on the lock released: to the handler's pending claim, or to FREE (R138). -/
def Dmi.pressReleased (d : Dmi) : Dmi :=
  if d.holder = .press then { d with holder := if d.claim.isSome then .handler else .free, claim := none } else d

/-- The empty-since second after an entry of the shot table is freed, as judged in the state `t` after it (R29). -/
def State.emptyAfter (t : State) (before : Option Nat) : Option Nat :=
  if t.tableEmpty ∧ t.zct.heatMode = .production then some t.clock else before

/-- No deadline the part keeps has been reached and left without its event (log entry 7). -/
def State.NothingDue (s : State) : Prop :=
  (∀ k d, ((s.scales.get k).state = .taring ∨ (s.scales.get k).state = .capturing) →
      (s.scales.get k).deadline = some d → s.clock < d) ∧
    (∀ r ∈ s.ltr.rack, r.charge.outDeadline ≠ s.clock) ∧
    (s.shc.heldClose.isSome → ∀ sh k c h, s.shc.assembling = some sh → sh.Holds k c → c.charge = some h →
      s.clock < h.outDeadline) ∧
    (∀ d, s.dmi.demould = some d → d.lateGiven = true ∨ s.clock < d.deadline) ∧
    (∀ t, s.zct.emptySince = some t → t ≤ s.clock ∧ (s.zct.stepDelay = 0 ∨ s.clock - t < s.zct.stepDelay * 60)) ∧
    ∀ l ∈ s.ltr.lots, l.lastSeen ≤ s.clock ∧ (s.lotInUse l = true ∨ s.clock - l.lastSeen ≤ s.ltr.stepAging * 60)

/-! ### What is promised of every state -/

/-- No heater is on while the mains state is LOST, and the frame position is none exactly then (R47, R50, R51). -/
def State.MainsSafe (s : State) : Prop :=
  (s.hbo.mains = .lost ↔ s.hbo.position = none) ∧
    (s.hbo.mains = .lost → ∀ z : Fin 12, (s.hbo.shares.get z).output = false)

/-- An eject grant stands only while ENGAGED stands; ENGAGED stands only while the handler holds the lock; the demould state
is present exactly while the press-side shot is in OPEN (R140 to R142). -/
def State.EjectSafe (s : State) : Prop :=
  (s.dmi.demould.isSome ↔ (s.pressIn .opened).isSome) ∧
    ∀ d, s.dmi.demould = some d → (d.grant = true → d.engaged = true) ∧ (d.engaged = true → s.dmi.holder = .handler)

/-- No port's notice set holds more than 32 notices (R171). -/
def State.NoticesBounded (s : State) : Prop :=
  ∀ p : Port, (s.ports.get p).notices.length ≤ Config.noticeRoom

/-- A lot is the current lot of at most one scale (R82). -/
def State.LotsApart (s : State) : Prop :=
  ∀ lot, (s.scales.get 0).currentLot = some lot → (s.scales.get 1).currentLot ≠ some lot

/-- The lot table is in strictly ascending order of lot ID, at most 32 entries (R79). -/
def State.LotTableSound (s : State) : Prop :=
  s.ltr.lots.Pairwise (fun a b => a.id < b.id) ∧ s.ltr.lots.length ≤ Config.lotRoom

/-- The rack's records stand at distinct positions below 16 (R88). -/
def State.RackSound (s : State) : Prop :=
  (s.ltr.rack.map RackRecord.position).Nodup ∧ ∀ r ∈ s.ltr.rack, r.position < Config.rackRoom

/-- Every number from the oldest retained to the newest issued lies in its slot, the write position follows the next
number, and no other number is held (R151). -/
def State.RingSound (s : State) : Prop :=
  0 < s.hrg.nextSeq ∧ s.hrg.writePos = slotOf s.hrg.nextSeq ∧
    (∀ q, s.oldest ≤ q → q ≤ s.newest → (s.hrg.slots.get (slotOf q)).sequence = some q) ∧
    ∀ i q, (s.hrg.slots.get i).sequence = some q → s.oldest ≤ q ∧ q ≤ s.newest ∧ slotOf q = i

/-- The finding of the last comparison of the available count with the low-water mark still holds (R154). -/
def State.LowCompared (s : State) : Prop :=
  s.hrg.below = decide (s.available < s.hrg.lowMark)

/-- The press-side entry holds no ASSEMBLING shot, and the other entry no other; no cavity of the assembling shot is LOADED
while there is a press-side shot (R103). -/
def State.ShotsApart (s : State) : Prop :=
  (∀ sh, s.shc.assembling = some sh → sh.phase = .assembling) ∧
    (∀ sh, s.shc.press = some sh → sh.phase ≠ .assembling) ∧
    (s.shc.press.isSome → ∀ sh k c, s.shc.assembling = some sh → sh.Holds k c → c.state ≠ .loaded)

end Sys2Proof.Machine
end

