-- ==== Sys2Proof/Certificates/Slice0/Obligations.lean ====
section
/-! DEFINITION. The statements about the model, from the spec's rules chapter by chapter. -/

section

open Sys2Proof Sys2Proof.Machine

/-! ### The queue and the reset line -/

/-- A step takes the command at the front of the queue and runs it on the state with the queue's rest; with nothing waiting
the part idles (the queue and its idling are the model's choice, log entry 1). -/
def Obligations.StepTakesTheFrontCommand : Prop :=
  ∀ (c : Instr) (rest : List Instr) (s : State),
    step (s.withPending (c :: rest)) = exec c (s.withPending rest) ∧ step (s.withPending []) = .next (s.withPending [])

/-- A pin reset leaves each block as its chapter's table gives it after pin reset (1.7, 2.10, 3.2, 3.11, 4.11, 5.6, 6.13,
8.7, 9.8, 10.5), with no heater on and every attention line deasserted. The manual demand, which no table gives, is not
spoken of (log entry 2).
The clauses under log entry 26 rest on the model's choice. -/
def Obligations.PinResetRestoresEveryBlock : Prop :=
  ∀ s : State, ∃ t : State, exec .pinReset s = .next t ∧ t.pending = s.pending ∧ t.clock = 0 ∧
    (∀ z, t.msq.tc.get z = { value := 0, recorded := .noReply, arrival := 0, lastOk := none, everOk := false }) ∧
    (∀ k, t.msq.lc.get k = { raw := 0, recorded := .noReply, arrival := 0, lastOk := none }) ∧
    t.msq.tcConv = some ⟨0, 0⟩ ∧ t.msq.lcConv = some ⟨0, 0⟩ ∧ t.msq.staleLimit = 2 ∧
    (∀ z, (t.zct.zones.get z).active = { power := 1000, bias := 0, band := 100, gain := 0, idle := 0, trip := 2500 } ∧
      (t.zct.zones.get z).pendingSetup = none ∧ (t.zct.zones.get z).mode = .off ∧
      (t.zct.zones.get z).pendingMode = none ∧ (t.zct.zones.get z).frames = none ∧ (t.zct.zones.get z).fault = none ∧
      (t.zct.zones.get z).pendingSetpoint = 0 ∧ (t.zct.zones.get z).setpoint = 0 ∧
      (t.zct.zones.get z).integrator = 0 ∧ (t.zct.zones.get z).invalidCount = 0 ∧ (t.zct.zones.get z).demand = 0 ∧
      (t.zct.zones.get z).saturated = false ∧ (t.zct.zones.get z).ready = false) ∧
    t.zct.heatMode = .production ∧ t.zct.emptySince = some 0 ∧
    t.zct.readyBand = 50 ∧ t.zct.standbyDelay = 15 ∧ t.zct.setback = 300 ∧
    t.hbo.baseBudget = 0 ∧ t.hbo.curtailment = 200000 ∧ t.hbo.hysteresis = 100 ∧ t.hbo.budget = 0 ∧
    t.hbo.totalRequest = 0 ∧ t.hbo.throttle = .normal ∧ t.hbo.frameLength = 100 ∧ t.hbo.requestedLength = 100 ∧
    t.hbo.position = none ∧ t.hbo.mains = .lost ∧
    (∀ z : Fin 12, t.hbo.shares.get z =
      { rank := 1, request := 0, grant := 0, cut := false, onCount := 0, offset := z.val * 100 / 12, output := false }) ∧
    (∀ k, t.scales.get k =
      { state := .idle, gain := 0, band := 5, count := 8, timeout := 10, minPly := 100, validity := 30, zero := 0
        tareTime := none, currentLot := none, window := [], steadyRun := 0, reference := none, deadline := none
        live := { raw := 0, weight := 0, condition := .noReply }, session := none }) ∧
    t.ltr.lots = [] ∧ t.ltr.agingPeriod = 60 ∧ t.ltr.rack = [] ∧
    (∀ i, t.shc.recipes.get i = none) ∧ t.shc.mounted = none ∧ t.shc.assembling = none ∧ t.shc.press = none ∧
    t.shc.shotCounter = 1 ∧ t.shc.chargeCounter = 1 ∧ t.shc.partCounter = 1 ∧ t.shc.station = 0 ∧
    t.shc.heldClose = none ∧ t.shc.heldOpen = none ∧
    t.dmi.holder = .free ∧ t.dmi.claim = none ∧ t.dmi.demould = none ∧
    (∀ i, t.hrg.slots.get i = .free) ∧ t.hrg.writePos = 0 ∧ t.hrg.nextSeq = 1 ∧ t.newest = 0 ∧ t.oldest = 1 ∧
    t.available = 256 ∧ t.hrg.lowMark = 16 ∧ t.hrg.wallOffset = 0 ∧ t.hrg.wallSet = false ∧
    (∀ p, (t.ports.get p).turnaround = 1 ∧ (t.ports.get p).notices = [] ∧ (t.ports.get p).lost = false ∧
      (t.ports.get p).lastStatus = none ∧ t.attention p = false) ∧
    t.ports.heldFetch = none ∧ t.ports.closeOutcome = none ∧ t.ports.openOutcome = none ∧
    t.ports.ejectOutcome = none ∧ t.ports.claimOutcome = none

/-- Right after reset every promise of Safety.lean holds.
That the comparison's finding is false then rests on the model's choice (log entry 27). -/
def Obligations.ResetMeetsEveryInvariant : Prop :=
  State.reset.MainsSafe ∧ State.reset.EjectSafe ∧ State.reset.NoticesBounded ∧ State.reset.LotsApart ∧
    State.reset.LotTableSound ∧ State.reset.RackSound ∧ State.reset.RingSound ∧ State.reset.LowCompared ∧
    State.reset.ShotsApart

/-! ### Invariants that every step keeps -/

/-- Every step keeps the heaters off while mains is LOST, and the frame position none exactly then (R47, R50, R51). -/
def Obligations.HeatersStayOffWhileMainsLost : Prop :=
  ∀ s t : State, s.MainsSafe → step s = .next t → t.MainsSafe

/-- Every step keeps an eject grant standing only under ENGAGED, and ENGAGED only under the handler's hold of the lock and a
shot in OPEN (R140, R141, R142). -/
def Obligations.EjectGrantStaysUnderTheLock : Prop :=
  ∀ s t : State, s.EjectSafe → step s = .next t → t.EjectSafe

/-- Every step keeps every notice set at 32 notices or fewer (R171). -/
def Obligations.NoticeSetsStayBounded : Prop :=
  ∀ s t : State, s.NoticesBounded → step s = .next t → t.NoticesBounded

/-- Every step keeps a lot the current lot of at most one scale, and the lot table at 32 entries or fewer, with no lot ID
twice, in ascending order (R79, R82, R86). -/
def Obligations.LotsStaySound : Prop :=
  ∀ s t : State, s.LotsApart → s.LotTableSound → step s = .next t → t.LotsApart ∧ t.LotTableSound

/-- Every step keeps the rack's records at distinct positions from 0 to 15 (R88). -/
def Obligations.RackPositionsStayDistinct : Prop :=
  ∀ s t : State, s.RackSound → step s = .next t → t.RackSound

/-- Every step keeps each number from the oldest retained to the newest issued in its own slot, and no other number held; and
whatever changes the available count or the low-water mark compares the two, so that the finding of the last comparison holds
after every step (R151, R152, R154).
That a finding is kept between comparisons is the model's choice (log entry 27). -/
def Obligations.RingKeepsEveryRetainedNumber : Prop :=
  ∀ s t : State, step s = .next t → (s.RingSound → t.RingSound) ∧ (s.LowCompared → t.LowCompared)

/-- Every step keeps at most one ASSEMBLING shot and at most one press-side shot in the table, and no cavity of the
assembling shot LOADED while there is a press-side shot (R103). -/
def Obligations.ShotTableKeepsOneOfEachKind : Prop :=
  ∀ s t : State, s.ShotsApart → step s = .next t → t.ShotsApart

/-! ### Transactions -/

/-- Outside held fetch, the bytes of every well-formed request read back as that request (R167, R180, R181, R186). Reading and
writing bytes are the model's own functions, which a step does not use (log entry 6). -/
def Obligations.TransactionsReadBack : Prop :=
  ∀ (i : Instr) (p : Port) (bytes : List Byte),
    i.wellFormed = true → i.spell = some (p, bytes) → parseTransaction false p bytes = some i

/-- A command that the request table does not permit on a port is answered NOT_PERMITTED and changes nothing but the port's
last status and reply, whatever its operands (R169). -/
def Obligations.NotPermittedChangesNothing : Prop :=
  ∀ (c : Command) (p : Port) (operands : List Byte) (s : State),
    c.permitted p = false → s.inHeldFetch p = false →
      exec (c.instr p operands) s = .next (s.replied p (.bare .notPermitted) s)

/-- In held fetch the first byte of every transaction on the trace port is a count: 0 ends the held fetch, any other
fetches from the next sequence, by the cases GONE, NONE and found, and moves it on by them; a transaction cut short leaves
both as they were (R162 to R164, R168, R180, R184).
The clauses under log entry 13 rest on the model's choice. -/
def Obligations.HeldFetchTakesEveryByteAsACount : Prop :=
  ∀ (s : State) (start : Nat), s.ports.heldFetch = some start →
    let after : Nat → State := fun n =>
      if n = 0 then s.replied .trace (.bare .ok) { s with ports := { s.ports with heldFetch := none } }
      else
        s.replied .trace (s.fetchAnswer start n)
          { s with ports := { s.ports with heldFetch := some (s.fetchNext start n) } }
    (∀ n, s.FetchFinds start n (s.fetchAnswer start n) (s.fetchNext start n)) ∧
    (∀ (c : Command) (operands : List Byte), exec (c.instr .trace operands) s = .next (after c.row.byte)) ∧
      (∀ b : Byte, exec (.unknownCommand .trace b) s = .next (after b.toNat)) ∧
      (∀ b : Byte, exec (.heldFetchCount b) s = .next (after b.toNat)) ∧
      exec (.transactionTruncated .trace) s = .next s

/-- Every transaction taken reads back as filler, 255, for its command, operands and turnaround, then the status byte and the
reply fields, then filler again. Outside held fetch: NO OPERATION is answered OK on every port; a byte that names no command is answered
UNKNOWN_COMMAND; a transaction cut short leaves only TRUNCATED as last status; and a one-byte transaction on the trace port
is the command its byte names (R164, R167 to R169, R179, R180).
The clauses under log entries 13 and 14 rest on the model's choice. -/
def Obligations.PortLevelAnswers : Prop :=
  ∀ (p : Port) (s : State), s.inHeldFetch p = false →
    (∀ (a : Answer) (sent clocked i : Nat) (t : State),
      let n := (s.ports.get p).turnaround
      let bytes := (((s.replied p a t).ports.get p).readBack sent clocked)
      bytes.length = clocked ∧ (i < clocked →
        (i < sent + n ∨ sent + n + 1 + a.fields.length ≤ i → bytes[i]? = some 255) ∧
        (i = sent + n → bytes[i]? = some (BitVec.ofNat 8 a.status.code)) ∧
        (∀ j, i = sent + n + 1 + j → j < a.fields.length → bytes[i]? = a.fields[j]?))) ∧
    exec (.noOperation p) s = .next (s.replied p (.bare .ok) s) ∧
    (∀ b : Byte, exec (.unknownCommand p b) s = .next (s.replied p (.bare .unknownCommand) s)) ∧
    exec (.transactionTruncated p) s = .next (s.modifyPort p fun q => { q with lastStatus := some .truncated }) ∧
    (p = .trace → ∀ b : Byte, exec (.heldFetchCount b) s =
      match Command.ofByte b with
      | none => exec (.unknownCommand .trace b) s
      | some c => if c.row.operandBytes = 0 then exec (c.instr .trace []) s else exec (.transactionTruncated .trace) s)

/-- The reading requests are answered OK, on each port that may ask them, with a reply of the length their layouts and
entries give, and change nothing but that port's last status and reply: STATUS, READ ZONES, READ RECIPE, SCALE STATUS, READ
LOTS, READ QUEUE, READ SHOTS, READ CURE and READ DEMOULD. A slot above 7 and a scale above 1 are answered BAD_ARGUMENT
(R12, R76, R86, R96, R100, R121, R133, R149, R174, R182 to R189).
The length of READ LOTS's header, 3 bytes, is the model's choice (log entry 31). -/
def Obligations.ReadingRequestsChangeNothing : Prop :=
  ∀ s : State,
    (∀ p, s.inHeldFetch p = false →
      ∃ bytes, bytes.length = 45 ∧ exec (.status p) s = .next (s.replied p ⟨.ok, bytes⟩ s)) ∧
    (∃ bytes, bytes.length = 404 ∧ exec (.readZones .press) s = .next (s.replied .press ⟨.ok, bytes⟩ s)) ∧
    (∀ slot : BitVec 8, slot.toNat < 8 →
      ∃ bytes, bytes.length = 117 ∧ exec (.readRecipe .press slot) s = .next (s.replied .press ⟨.ok, bytes⟩ s)) ∧
    (∀ slot : BitVec 8, 8 ≤ slot.toNat →
      exec (.readRecipe .press slot) s = .next (s.replied .press (.bare .badArgument) s)) ∧
    (∀ k : Fin 2, ∃ bytes,
      bytes.length = 56 + 10 * (((s.scales.get k).session.map Session.plies).getD []).length ∧
        exec (.scaleStatus .charge (BitVec.ofNat 8 k.val)) s = .next (s.replied .charge ⟨.ok, bytes⟩ s)) ∧
    (∀ scale : BitVec 8, 2 ≤ scale.toNat →
      exec (.scaleStatus .charge scale) s = .next (s.replied .charge (.bare .badArgument) s)) ∧
    (∀ p, p = .charge ∨ p = .trace → s.inHeldFetch p = false →
      ∃ bytes, bytes.length = 3 + 24 * s.ltr.lots.length ∧
        exec (.readLots p) s = .next (s.replied p ⟨.ok, bytes⟩ s)) ∧
    (∀ p, p = .charge ∨ p = .handler →
      ∃ bytes, bytes.length = 1 + (s.ltr.rack.map fun r => 29 + 6 * r.charge.plies.length).sum ∧
        exec (.readQueue p) s = .next (s.replied p ⟨.ok, bytes⟩ s)) ∧
    (∀ p, p = .press ∨ p = .handler →
      ∃ bytes, bytes.length = 18 + ((s.shc.assembling.toList ++ s.shc.press.toList).map fun sh =>
          37 + 26 * sh.enabled.length).sum ∧
        exec (.readShots p) s = .next (s.replied p ⟨.ok, bytes⟩ s)) ∧
    (∀ p, p = .press ∨ p = .trace → s.inHeldFetch p = false →
      ∃ bytes, (s.shc.press = none → bytes = be 1 0) ∧
        (∀ sh r, s.shc.press = some sh → s.recipe = some r →
          let n := (sh.enabled.filter fun x => x.2.cure.isSome).length
          (n = 0 → bytes = be 1 0) ∧ (0 < n → bytes.length = 16 + 24 * n)) ∧
        exec (.readCure p) s = .next (s.replied p ⟨.ok, bytes⟩ s)) ∧
    (∀ p, p = .press ∨ p = .handler →
      ∃ bytes, bytes.length = 25 + 16 * (match s.opening with | some x => x.1.enabled.length | none => 0) ∧
        exec (.readDemould p) s = .next (s.replied p ⟨.ok, bytes⟩ s))

/-- READ NOTICES returns the oldest notices of its own port up to the maximum count, which is held to 1 to 32, in the order
they were set; they leave the set, the lost mark is reported and cleared, and the attention line stands exactly while some
are left (R172, R173, R190).
The clauses under log entry 16 rest on the model's choice. -/
def Obligations.ReadNoticesTakesTheOldest : Prop :=
  ∀ (p : Port) (count : BitVec 8) (s : State), s.inHeldFetch p = false →
    let n := nearest 1 32 count.toNat
    let q := s.ports.get p
    let t := s.modifyPort p fun x => { x with notices := q.notices.drop n, lost := false }
    exec (.readNotices p count) s = .next (s.replied p
      ⟨clampStatus 1 32 count.toNat,
        be 1 (min n q.notices.length) ++ be 1 (q.notices.length - n) ++ mark q.lost
          ++ (q.notices.take n).flatMap Notice.entry⟩ t) ∧
    (s.replied p ⟨.ok, []⟩ t).attention p = decide (n < q.notices.length)

/-- PORT SETUP writes its own port's turnaround, held to 1 to 4; its own reply is framed with the setting in force before,
and no other port's setting changes (R175). -/
def Obligations.PortSetupWritesTheTurnaround : Prop :=
  ∀ (p : Port) (turnaround : BitVec 8) (s : State), s.inHeldFetch p = false →
    ∃ t, exec (.portSetup p turnaround) s = .next t ∧
      (t.ports.get p).turnaround = nearest 1 4 turnaround.toNat ∧
      (t.ports.get p).lastStatus = some (clampStatus 1 4 turnaround.toNat) ∧
      (t.ports.get p).reply = some
        ⟨(s.ports.get p).turnaround, clampStatus 1 4 turnaround.toNat, be 1 (nearest 1 4 turnaround.toNat)⟩ ∧
      (t.ports.get p).notices = (s.ports.get p).notices ∧ (t.ports.get p).lost = (s.ports.get p).lost ∧
      (∀ q, q ≠ p → t.ports.get q = s.ports.get q) ∧ { t with ports := s.ports } = s

/-- PORT RESET returns its own port to turnaround 1 with an empty notice set, and ends the requests the port has held: on
the press port the held close (with CLOSE_ENDED in the emptied set), the held open and the held eject; on the handler port
the pending claim; each with the outcome PORT_RESET. The shots, the lock's holder and every other block stay as they were
(R111, R116, R143, R150, R176).
The clauses under log entry 21 rest on the model's choice. -/
def Obligations.PortResetEndsHeldRequests : Prop :=
  ∀ s : State,
    (∀ p, p = .charge ∨ p = .trace → s.inHeldFetch p = false →
      exec (.portReset p) s = .next (s.replied p ⟨.ok, be 1 0⟩
        (s.modifyPort p fun q => { q with turnaround := 1, notices := [], lost := false }))) ∧
    (∃ t, exec (.portReset .handler) s = .next t ∧ t.dmi = { s.dmi with claim := none } ∧
      t.ports.claimOutcome = (if s.dmi.claim.isSome then some .portReset else s.ports.claimOutcome) ∧
      t.ports.handler = { s.ports.handler with
        turnaround := 1, notices := [], lost := false, lastStatus := some .ok
        reply := some ⟨s.ports.handler.turnaround, .ok, be 1 (if s.dmi.claim.isSome then 1 else 0)⟩ } ∧
      t.ports.press = s.ports.press ∧ t.ports.charge = s.ports.charge ∧ t.ports.trace = s.ports.trace ∧
      { t with dmi := s.dmi, ports := s.ports } = s) ∧
    (∃ t, exec (.portReset .press) s = .next t ∧
      t.shc = { s.shc with heldClose := none, heldOpen := none } ∧
      t.dmi = { s.dmi with demould := s.dmi.demould.map fun d => { d with heldEject := false } } ∧
      t.ports.press.notices = (match s.shc.heldClose with
        | some h => [⟨.closeEnded h.shot .portReset, s.clock⟩]
        | none => []) ∧
      t.ports.press.turnaround = 1 ∧ t.ports.press.lost = false ∧ t.ports.press.lastStatus = some .ok ∧
      t.ports.closeOutcome = (if s.shc.heldClose.isSome then some .portReset else s.ports.closeOutcome) ∧
      t.ports.openOutcome = (if s.shc.heldOpen.isSome then some .portReset else s.ports.openOutcome) ∧
      t.ports.ejectOutcome =
        (if s.dmi.demould.any (fun d => d.heldEject) then some .portReset else s.ports.ejectOutcome) ∧
      t.ports.charge = s.ports.charge ∧ t.ports.handler = s.ports.handler ∧ t.ports.trace = s.ports.trace ∧
      { t with shc := s.shc, dmi := s.dmi, ports := s.ports } = s)

/-- A notice joins its port's set at the end, with the run-second of its setting; on a set of 32 the oldest leaves and the
lost mark is set; the attention line is asserted, and no other port's set changes (R171, R172). -/
def Obligations.NoticeJoinsItsPortsSet : Prop :=
  ∀ (p : Port) (b : NoticeBody) (s : State),
    ((s.ports.get p).notices.length < 32 →
      (setNotice p b s).ports.get p =
        { s.ports.get p with notices := (s.ports.get p).notices ++ [⟨b, s.clock⟩] }) ∧
    (32 ≤ (s.ports.get p).notices.length →
      (setNotice p b s).ports.get p =
        { s.ports.get p with notices := (s.ports.get p).notices.tail ++ [⟨b, s.clock⟩], lost := true }) ∧
    (setNotice p b s).attention p = true ∧ ∀ q, q ≠ p → (setNotice p b s).ports.get q = s.ports.get q

/-! ### Measurement channels -/

/-- A thermocouple result for the outstanding channel is taken by its status: OK sets value, status, arrival, last-OK and
ever-OK; OPEN and RANGE set only status and arrival. The next channel's conversion starts, and nothing else changes
(R3, R5). -/
def Obligations.ThermocoupleResultIsTaken : Prop :=
  ∀ (z : Fin 12) (st : TcResult) (value : BitVec 16) (s : State) (c : Conversion),
    s.msq.tcConv = some c → c.channel = z.val →
      let r := s.msq.tc.get z
      exec (.thermocoupleResult (BitVec.ofNat 8 z.val) st value) s = .next { s with msq := { s.msq with
        tc := s.msq.tc.set z (match st with
          | .ok => { value := value.toInt, recorded := .ok, arrival := s.clock, lastOk := some s.clock, everOk := true }
          | .open_ => { r with recorded := .open_, arrival := s.clock }
          | .range => { r with recorded := .range, arrival := s.clock })
        tcConv := some ⟨(z.val + 1) % 12, s.clock⟩ } }

/-- A load-cell result for the outstanding channel updates its record, starts the other channel's conversion, and replaces
its own scale's live reading by the weight of R57; the other scale stays as it was, and a scale in IDLE or OPEN changes in
nothing but the live reading. In TARING and CAPTURING an OVERRANGE sample joins the settle window as an unusable entry and sets
the steady run to 0, so that nothing settles at it (R4, R6, R57 to R60). -/
def Obligations.LoadCellResultIsTaken : Prop :=
  ∀ (k : Fin 2) (st : LcResult) (count : BitVec 24) (s : State) (c : Conversion),
    s.msq.lcConv = some c → c.channel = k.val →
      let x := s.scales.get k
      let d := count.toInt - x.zero
      let w : Int := if 0 ≤ d then (d * x.gain + 32768) / 65536 else -((-d * x.gain + 32768) / 65536)
      let live : Live := match st with
        | .overrange => ⟨count.toInt, 65535, .overload⟩
        | .ok =>
          if 65535 < w then ⟨count.toInt, 65535, .overload⟩
          else if w < 0 then ⟨count.toInt, 0, .under⟩ else ⟨count.toInt, w.toNat, .ok⟩
      let msq := { s.msq with
        lc := s.msq.lc.set k (match st with
          | .ok => { raw := count.toInt, recorded := .ok, arrival := s.clock, lastOk := some s.clock }
          | .overrange => { s.msq.lc.get k with recorded := .overrange, arrival := s.clock })
        lcConv := some ⟨1 - k.val, s.clock⟩ }
      (∃ t, exec (.loadCellResult (BitVec.ofNat 8 k.val) st count) s = .next t ∧ t.msq = msq ∧
        (t.scales.get k).live = live ∧ ∀ j, j ≠ k → t.scales.get j = s.scales.get j) ∧
      (x.state = .idle ∨ x.state = .opened →
        exec (.loadCellResult (BitVec.ofNat 8 k.val) st count) s =
          .next { s with msq := msq, scales := s.scales.set k { x with live := live } }) ∧
      (x.state = .taring ∨ x.state = .capturing → st = .overrange →
        let entry : Sample := ⟨some count.toInt, if x.state = .taring then none else some 65535, false⟩
        let window := if x.window.length < 8 then x.window ++ [entry] else x.window.tail ++ [entry]
        exec (.loadCellResult (BitVec.ofNat 8 k.val) st count) s =
          .next { s with msq := msq, scales := s.scales.set k { x with live := live, window := window, steadyRun := 0 } })

/-- When the reply limit runs out, the outstanding channel's status becomes NO_REPLY and its arrival second now, with value
or count and last-OK kept, and the next conversion starts; a load-cell expiry also reaches its scale as a sample with no
count, which in TARING and CAPTURING joins the settle window as an unusable entry and sets the steady run to 0. Nothing else
changes (R3, R4, R7, R57 to R60). -/
def Obligations.ExpiryRecordsNoReply : Prop :=
  ∀ (s : State) (c : Conversion),
    (∀ z : Fin 12, s.msq.tcConv = some c → c.channel = z.val →
      exec (.replyLimitExpiry .thermocouple) s = .next { s with msq := { s.msq with
        tc := s.msq.tc.set z { s.msq.tc.get z with recorded := .noReply, arrival := s.clock }
        tcConv := some ⟨(z.val + 1) % 12, s.clock⟩ } }) ∧
    (∀ k : Fin 2, s.msq.lcConv = some c → c.channel = k.val →
      let x := s.scales.get k
      let live : Live := { raw := x.live.raw, weight := 0, condition := .noReply }
      let entry : Sample := ⟨none, if x.state = .taring then none else some 0, false⟩
      let window := if x.window.length < 8 then x.window ++ [entry] else x.window.tail ++ [entry]
      exec (.replyLimitExpiry .loadCell) s = .next { s with
        msq := { s.msq with
          lc := s.msq.lc.set k { s.msq.lc.get k with recorded := .noReply, arrival := s.clock }
          lcConv := some ⟨1 - k.val, s.clock⟩ }
        scales := s.scales.set k (if x.state = .taring ∨ x.state = .capturing
          then { x with live := live, window := window, steadyRun := 0 } else { x with live := live }) })

/-- A reply the part cannot take completes the outstanding conversion without touching any channel record or scale, a result
that names another channel among them; with no conversion outstanding it is dropped (R8).
The clauses under log entry 12 rest on the model's choice. -/
def Obligations.UnusableReplyTouchesNoRecord : Prop :=
  ∀ (s : State) (c : Conversion) (why : Unusable), why ≠ .noConversion →
    (s.msq.tcConv = some c → c.channel < 12 →
      let after := { s with msq := { s.msq with tcConv := some ⟨(c.channel + 1) % 12, s.clock⟩ } }
      exec (.unusableReply .thermocouple why) s = .next after ∧
        ∀ (ch : Byte) (st : TcResult) (v : BitVec 16), ch.toNat ≠ c.channel →
          exec (.thermocoupleResult ch st v) s = .next after) ∧
    (s.msq.lcConv = some c → c.channel < 2 →
      let after := { s with msq := { s.msq with lcConv := some ⟨1 - c.channel, s.clock⟩ } }
      exec (.unusableReply .loadCell why) s = .next after ∧
        ∀ (ch : Byte) (st : LcResult) (v : BitVec 24), ch.toNat ≠ c.channel →
          exec (.loadCellResult ch st v) s = .next after) ∧
    ∀ link, exec (.unusableReply link .noConversion) s = .next s

/-! ### Setups, zones and the heat mode -/

/-- The station's setup requests write their values taken to the nearer limit, answer CLAMPED where that changed one and OK
where not, carry the values as written, and change nothing else: the stale limit (R10), the base budget, hysteresis and
requested frame length (R37), the curtailment (R38), the aging period (R84); SET STATION takes every value (R105). -/
def Obligations.StationSetupsAreWritten : Prop :=
  ∀ s : State,
    (∀ v : BitVec 8, exec (.measureSetup .press v) s = .next (s.replied .press
      ⟨clampStatus 1 10 v.toNat, be 1 (nearest 1 10 v.toNat)⟩
      { s with msq := { s.msq with staleLimit := nearest 1 10 v.toNat } })) ∧
    (∀ (b : BitVec 32) (h n : BitVec 16), exec (.budgetSetup .press b h n) s = .next (s.replied .press
      ⟨if b.toNat ≤ 200000 ∧ h.toNat ≤ 500 ∧ 20 ≤ n.toNat ∧ n.toNat ≤ 400 then .ok else .clamped,
        be 4 (nearest 0 200000 b.toNat) ++ be 2 (nearest 0 500 h.toNat) ++ be 2 (nearest 20 400 n.toNat)⟩
      { s with hbo := { s.hbo with
          baseBudget := nearest 0 200000 b.toNat
          hysteresis := nearest 0 500 h.toNat
          requestedLength := nearest 20 400 n.toNat } })) ∧
    (s.ports.heldFetch = none → ∀ w : BitVec 32, exec (.setCurtail .trace w) s = .next (s.replied .trace
      ⟨clampStatus 0 200000 w.toNat, be 4 (nearest 0 200000 w.toNat)⟩
      { s with hbo := { s.hbo with curtailment := nearest 0 200000 w.toNat } })) ∧
    (∀ v : BitVec 8, exec (.lotSetup .charge v) s = .next (s.replied .charge
      ⟨clampStatus 1 240 v.toNat, be 1 (nearest 1 240 v.toNat)⟩
      { s with ltr := { s.ltr with agingPeriod := nearest 1 240 v.toNat } })) ∧
    (∀ v : BitVec 16, exec (.setStation .press v) s = .next (s.replied .press (.bare .ok)
      { s with shc := { s.shc with station := v.toNat } }))

/-- ZONE SETUP writes a zone's pending setup, each value taken to the nearer limit, and derives that zone's pending setpoint
afresh: from the mounted recipe, or else from the new idle setpoint, lowered by the setback in STANDBY. The active setup,
the other zones and every other block stay as they were; a zone above 11 is answered BAD_ARGUMENT (R15, R17). -/
def Obligations.ZoneSetupIsPendingAndDerived : Prop :=
  ∀ (zone : BitVec 8) (power bias band gain idle trip : BitVec 16) (s : State),
    (12 ≤ zone.toNat → exec (.zoneSetup .press zone power bias band gain idle trip) s =
      .next (s.replied .press (.bare .badArgument) s)) ∧
    ∀ z : Fin 12, zone.toNat = z.val →
      let u : ZoneSetup :=
        { power := nearest 100 20000 power.toNat, bias := nearest 0 1000 bias.toNat
          band := nearest 10 2000 band.toNat, gain := nearest 0 1000 gain.toNat
          idle := if idle.toInt < 0 then 0 else if 2500 < idle.toInt then 2500 else idle.toInt.toNat
          trip := if trip.toInt < 500 then 500 else if 3000 < trip.toInt then 3000 else trip.toInt.toNat }
      let base := match s.recipe with | some r => r.setpoints.get z | none => u.idle
      let inRange := 100 ≤ power.toNat ∧ power.toNat ≤ 20000 ∧ bias.toNat ≤ 1000 ∧ 10 ≤ band.toNat ∧
        band.toNat ≤ 2000 ∧ gain.toNat ≤ 1000 ∧ 0 ≤ idle.toInt ∧ idle.toInt ≤ 2500 ∧ 500 ≤ trip.toInt ∧
        trip.toInt ≤ 3000
      exec (.zoneSetup .press zone power bias band gain idle trip) s = .next (s.replied .press
        ⟨if inRange then .ok else .clamped,
          be 2 u.power ++ be 2 u.bias ++ be 2 u.band ++ be 2 u.gain ++ be 2 u.idle ++ be 2 u.trip⟩
        { s with zct := { s.zct with zones := s.zct.zones.set z { s.zct.zones.get z with
            pendingSetup := some u
            pendingSetpoint := if s.zct.heatMode = .standby then base - s.zct.setback else base } } })

/-- HEAT SETUP writes the ready band, the standby delay and the setback, each taken to the nearer limit; in STANDBY every
zone's pending setpoint is derived again with the new setback, and in PRODUCTION no setpoint moves (R16, R17). -/
def Obligations.HeatSetupDerivesInStandby : Prop :=
  ∀ (band : BitVec 16) (delay : BitVec 8) (setback : BitVec 16) (s : State),
    ∃ t, exec (.heatSetup .press band delay setback) s = .next t ∧
      t.zct.readyBand = nearest 10 200 band.toNat ∧ t.zct.standbyDelay = nearest 0 120 delay.toNat ∧
      t.zct.setback = nearest 0 1000 setback.toNat ∧ t.zct.heatMode = s.zct.heatMode ∧
      t.zct.emptySince = s.zct.emptySince ∧ t.zct.stepDelay = s.zct.stepDelay ∧
      (s.zct.heatMode = .production → t.zct.zones = s.zct.zones) ∧
      (s.zct.heatMode = .standby → ∀ z, t.zct.zones.get z = { s.zct.zones.get z with
        pendingSetpoint := s.baseSetpoint z - nearest 0 1000 setback.toNat }) ∧
      (t.ports.get .press).lastStatus = some
        (if 10 ≤ band.toNat ∧ band.toNat ≤ 200 ∧ delay.toNat ≤ 120 ∧ setback.toNat ≤ 1000 then .ok else .clamped) ∧
      { t with zct := s.zct, ports := s.ports } = s

/-- ZONE MODE writes only the zone's pending mode: OFF, AUTO, or MANUAL with its demand held to 1000 and its count, 0
meaning continuous; a zone in FAULT is answered ZONE_FAULT. CLEAR ZONE FAULT is accepted for a zone in FAULT whose channel is
judged OK at or below the active trip temperature, or whose clear was accepted before, and else answered ZONE_FAULT, or
BAD_STATE outside FAULT; only the clear-accepted mark changes. A zone above 11 or another mode is answered BAD_ARGUMENT
(R19, R22).
The clauses under log entry 28 rest on the model's choice. -/
def Obligations.ZoneModeAndClearAreJudged : Prop :=
    (∀ (zone mode : BitVec 8) (demand : BitVec 16) (frames : BitVec 8) (s : State),
      (12 ≤ zone.toNat ∨ 3 ≤ mode.toNat →
        exec (.zoneMode .press zone mode demand frames) s = .next (s.replied .press (.bare .badArgument) s)) ∧
      ∀ z : Fin 12, zone.toNat = z.val → mode.toNat < 3 →
        ((s.zct.zones.get z).mode = .fault →
          exec (.zoneMode .press zone mode demand frames) s = .next (s.replied .press (.bare .zoneFault) s)) ∧
        ((s.zct.zones.get z).mode ≠ .fault →
          let change : ModeChange :=
            if mode.toNat = 0 then .off
            else if mode.toNat = 1 then .auto
            else .manual (if 1000 < demand.toNat then 1000 else demand.toNat)
              (if frames.toNat = 0 then .continuous else .left frames.toNat)
          exec (.zoneMode .press zone mode demand frames) s = .next (s.replied .press
            (.bare (if mode.toNat = 2 ∧ 1000 < demand.toNat then .clamped else .ok))
            { s with zct := { s.zct with
                zones := s.zct.zones.set z { s.zct.zones.get z with pendingMode := some change } } }))) ∧
    (∀ (zone : BitVec 8) (s : State),
      (12 ≤ zone.toNat → exec (.clearZoneFault .press zone) s = .next (s.replied .press (.bare .badArgument) s)) ∧
      ∀ z : Fin 12, zone.toNat = z.val →
        let x := s.zct.zones.get z
        (x.mode ≠ .fault → exec (.clearZoneFault .press zone) s = .next (s.replied .press (.bare .badState) s)) ∧
        ∀ f, x.mode = .fault → x.fault = some f →
          (f.clearAccepted = true → exec (.clearZoneFault .press zone) s = .next (s.replied .press (.bare .ok) s)) ∧
          (f.clearAccepted = false → s.judged z = .ok → (s.msq.tc.get z).value ≤ x.active.trip →
            exec (.clearZoneFault .press zone) s = .next (s.replied .press (.bare .ok)
              { s with zct := { s.zct with
                  zones := s.zct.zones.set z { x with fault := some { f with clearAccepted := true } } } })) ∧
          (f.clearAccepted = false → (s.judged z ≠ .ok ∨ (x.active.trip : Int) < (s.msq.tc.get z).value) →
            exec (.clearZoneFault .press zone) s = .next (s.replied .press (.bare .zoneFault) s)))

/-- The heat mode's changes: STANDBY NOW and the end of the standby wait enter STANDBY with every pending setpoint lowered
by the setback and the STANDBY notice; WAKE returns to PRODUCTION at the base, or restarts the wait. STANDBY NOW with a shot
in the table is answered BAD_STATE, and a wait that has not run out changes nothing (R17, R29, R30, R31).
The clauses under log entries 8 and 9 rest on the model's choice. -/
def Obligations.HeatModeChanges : Prop :=
  ∀ s : State,
    let lowered := fun (t : State) =>
      t.zct.heatMode = .standby ∧ t.zct.emptySince = none ∧
        (∀ z, t.zct.zones.get z =
          { s.zct.zones.get z with pendingSetpoint := s.baseSetpoint z - s.zct.setback }) ∧
        (∃ old, t.ports.press.notices = old ++ [⟨.standby .standby, s.clock⟩]) ∧
        { t with zct := s.zct, ports := s.ports } = s
    (s.tableEmpty = false → exec (.standbyNow .press) s = .next (s.replied .press (.bare .badState) s)) ∧
    (s.tableEmpty = true → s.zct.heatMode = .standby →
      exec (.standbyNow .press) s = .next (s.replied .press (.bare .ok) s)) ∧
    (s.tableEmpty = true → s.zct.heatMode = .production →
      ∃ t, exec (.standbyNow .press) s = .next t ∧ t.ports.press.lastStatus = some .ok ∧ lowered t) ∧
    (∀ since, s.tableEmpty = true → s.zct.heatMode = .production → s.zct.emptySince = some since → since ≤ s.clock →
      s.zct.stepDelay = s.zct.standbyDelay →
        (s.zct.standbyDelay ≠ 0 → s.zct.standbyDelay * 60 ≤ s.clock - since →
          ∃ t, exec .standbyWaitEnd s = .next t ∧ lowered t) ∧
        (s.zct.standbyDelay = 0 ∨ s.clock - since < s.zct.standbyDelay * 60 → exec .standbyWaitEnd s = .next s)) ∧
    (s.zct.heatMode = .production → exec (.wake .press) s = .next (s.replied .press (.bare .ok)
      (if s.tableEmpty then { s with zct := { s.zct with emptySince := some s.clock } } else s))) ∧
    (s.zct.heatMode = .standby → ∃ t, exec (.wake .press) s = .next t ∧ t.zct.heatMode = .production ∧
      t.zct.emptySince = (if s.tableEmpty then some s.clock else none) ∧
      (∀ z, t.zct.zones.get z = { s.zct.zones.get z with pendingSetpoint := s.baseSetpoint z }) ∧
      (∃ old, t.ports.press.notices = old ++ [⟨.standby .production, s.clock⟩]) ∧
      t.ports.press.lastStatus = some .ok ∧ { t with zct := s.zct, ports := s.ports } = s)

/-! ### The frame boundary -/

/-- At a boundary every zone takes its pending setup and setpoint, and its demand follows its mode: 0 in OFF, in FAULT and in
AUTO without a valid measurement; the manual demand in MANUAL; READY is marked by mode, judged status and ready band
(R18, R24, R25, R27).
That a zone entering FAULT is not READY is the model's choice of R21 over R27 (log entry 33). -/
def Obligations.BoundaryWorksEveryZone : Prop :=
  ∀ (s : State) (z : Fin 12), s.PulseIsBoundary →
    ∃ t, exec .frameBoundary s = .next t ∧
      let x := s.zct.zones.get z
      let y := t.zct.zones.get z
      let m := (s.msq.tc.get z).value
      y.active = x.pendingSetup.getD x.active ∧ y.pendingSetup = none ∧ y.pendingMode = none ∧
      y.setpoint = x.pendingSetpoint ∧ y.pendingSetpoint = x.pendingSetpoint ∧
      (y.mode = .off ∨ y.mode = .fault → y.demand = 0 ∧ y.saturated = false) ∧
      (y.mode = .manual → y.demand = y.manualDemand ∧ y.saturated = false) ∧
      (y.mode = .auto → s.judged z ≠ .ok → y.demand = 0 ∧ y.saturated = false) ∧
      (y.ready = true ↔ (y.mode = .auto ∨ y.mode = .manual) ∧ s.judged z = .ok ∧
        |(y.setpoint : Int) - m| ≤ s.zct.readyBand)

/-- At a boundary a zone that is in AUTO with nothing pending and a valid measurement at or below its trip temperature stays
in AUTO. The demand of every zone that the boundary leaves in AUTO with a valid measurement is bias plus proportional term plus
integrator, held to 0 to 1000; and its integrator, which starts at 0 where the zone comes from FAULT, moves by the error's share
only when the zone is neither saturated nor cut, held to -200 to 1000 (R18, R19, R21 to R23, R26). -/
def Obligations.BoundaryControlsAutoZone : Prop :=
  ∀ (s : State) (z : Fin 12), s.PulseIsBoundary →
    ∃ t, exec .frameBoundary s = .next t ∧
      let x := s.zct.zones.get z
      let y := t.zct.zones.get z
      let m := (s.msq.tc.get z).value
      let u := x.pendingSetup.getD x.active
      let e := max (-5000) (min 5000 ((x.pendingSetpoint : Int) - m))
      let start := if x.mode = .fault ∧ x.pendingMode = none then 0 else x.integrator
      let raw := (u.bias : Int) + (e * 1000).tdiv u.band + start
      (x.mode = .auto → x.pendingMode = none → s.judged z = .ok → m ≤ u.trip → y.mode = .auto ∧ y.invalidCount = 0) ∧
      (y.mode = .auto → s.judged z = .ok →
        (y.demand : Int) = max 0 (min 1000 raw) ∧ (y.saturated = true ↔ (y.demand : Int) ≠ raw) ∧
        y.integrator =
          (if y.saturated = false ∧ (t.hbo.shares.get z).cut = false then
            max (-200) (min 1000 (start + (e * u.gain).tdiv 1000))
          else start))

/-- The mode stage and the fault watch at a boundary. A pending mode change takes effect: OFF with integrator and invalid
count at 0, AUTO, or MANUAL with its demand and its frames, whose count does not step there. With none pending, a zone whose
clear was accepted returns to AUTO or MANUAL with its integrator at 0, which an AUTO zone with a valid reading then moves from
0; a finite MANUAL counts down and ends in AUTO. The zone is then watched in its new mode: the first invalid boundary of AUTO
or MANUAL is counted and the second puts it into FAULT, a temperature over the trip puts it into FAULT, each entry with
ZONE_FAULT at the press port; a zone in OFF is not watched (R18 to R22, R26). -/
def Obligations.BoundaryWatchesForFaults : Prop :=
  ∀ (s : State) (z : Fin 12), s.PulseIsBoundary →
    ∃ t, exec .frameBoundary s = .next t ∧
      let x := s.zct.zones.get z
      let y := t.zct.zones.get z
      let j := s.judged z
      let m := (s.msq.tc.get z).value
      let u := x.pendingSetup.getD x.active
      let running := x.mode = .auto ∨ (x.mode = .manual ∧ x.frames = some .continuous)
      let valid := j = .ok ∧ m ≤ u.trip
      let hot := j = .ok ∧ (u.trip : Int) < m
      let e := max (-5000) (min 5000 ((x.pendingSetpoint : Int) - m))
      let moved := fun i : Int =>
        if y.saturated = false ∧ (t.hbo.shares.get z).cut = false then max (-200) (min 1000 (i + (e * u.gain).tdiv 1000)) else i
      let present : PreFault := if x.mode = .auto then .auto else .manual .continuous
      let counted := fun n : Nat => if 2 ≤ n then PreFault.manual (.left (n - 1)) else .auto
      let runs := fun p : PreFault =>
        (p = .auto → y.mode = .auto ∧ y.frames = none) ∧ ∀ n, p = .manual n → y.mode = .manual ∧ y.frames = some n
      let faults := fun (p : PreFault) (cause : FaultCause) => y.mode = .fault ∧ y.invalidCount = 0 ∧ y.fault = some
        { preFault := p, cause := cause, since := s.clock, clearAccepted := false } ∧
          ⟨.zoneFault z.val, s.clock⟩ ∈ t.ports.press.notices
      (x.pendingMode = some .off → y.mode = .off ∧ y.frames = none ∧ y.integrator = 0 ∧ y.invalidCount = 0) ∧
      (x.pendingMode = some .auto →
        (valid → runs .auto ∧ y.invalidCount = 0 ∧ y.integrator = moved x.integrator) ∧
        (j ≠ .ok → x.invalidCount = 0 → runs .auto ∧ y.invalidCount = 1 ∧ y.integrator = x.integrator) ∧
        (j ≠ .ok → x.invalidCount ≠ 0 → faults .auto (.invalid j) ∧ y.integrator = x.integrator) ∧
        (hot → faults .auto (.overTrip m) ∧ y.integrator = x.integrator)) ∧
      (∀ d n, x.pendingMode = some (.manual d n) → y.manualDemand = d ∧ y.integrator = x.integrator ∧
        (valid → runs (.manual n) ∧ y.invalidCount = 0) ∧
        (j ≠ .ok → x.invalidCount = 0 → runs (.manual n) ∧ y.invalidCount = 1) ∧
        (j ≠ .ok → x.invalidCount ≠ 0 → faults (.manual n) (.invalid j)) ∧
        (hot → faults (.manual n) (.overTrip m))) ∧
      (x.pendingMode = none →
        (running → j ≠ .ok → x.invalidCount = 0 → y.mode = x.mode ∧ y.invalidCount = 1) ∧
        (running → j ≠ .ok → x.invalidCount ≠ 0 → faults present (.invalid j) ∧ y.integrator = x.integrator) ∧
        (running → hot → faults present (.overTrip m)) ∧
        (running → valid → y.mode = x.mode ∧ y.invalidCount = 0) ∧
        (x.mode = .manual → valid → ∀ n, x.frames = some (.left n) →
          (2 ≤ n → y.mode = .manual ∧ y.frames = some (.left (n - 1))) ∧ (n = 1 → y.mode = .auto ∧ y.frames = none)) ∧
        (x.mode = .manual → ∀ n, x.frames = some (.left n) → 1 ≤ n →
          (j ≠ .ok → x.invalidCount = 0 → runs (counted n) ∧ y.invalidCount = 1) ∧
          (j ≠ .ok → x.invalidCount ≠ 0 → faults (counted n) (.invalid j)) ∧
          (hot → faults (counted n) (.overTrip m))) ∧
        (x.mode = .fault → valid → ∀ f, x.fault = some f → f.clearAccepted = true →
          y.fault = none ∧ (f.preFault = .auto → y.mode = .auto ∧ y.integrator = moved 0) ∧
          ∀ n, f.preFault = .manual n → y.mode = .manual ∧ y.frames = some n ∧ y.integrator = 0) ∧
        (x.mode = .fault → ∀ f, x.fault = some f → f.clearAccepted = true →
          (j ≠ .ok → x.invalidCount = 0 → y.fault = none ∧ runs f.preFault ∧ y.invalidCount = 1 ∧ y.integrator = 0) ∧
          (hot → faults f.preFault (.overTrip m) ∧ y.integrator = 0)) ∧
        (x.mode = .fault → ∀ f, x.fault = some f → f.clearAccepted = false → y.mode = .fault ∧ y.fault = x.fault) ∧
        (x.mode = .off → y.mode = .off ∧ y.invalidCount = x.invalidCount))

/-- A boundary loads HBO's figures together: the requested frame length comes into force, the effective budget is the lesser
of base budget and curtailment, each zone's request is its demand in watts rounded up and 0 in OFF and FAULT, its on-count
and offset follow from grant and frame length, its cut mark tells whether its grant is less than its demand, and its output
takes its window's state at position 0. It sets MAINS, PRESENT, at the first pulse after a loss, ZONE_FAULT for each zone that
enters FAULT and THROTTLE where the throttle state changes, and no other notice. Then a held close is examined again exactly
where a zone's mode or READY mark or the throttle state has changed. Nothing else changes (R21, R28, R36, R39, R40, R43, R46
to R49, R51, R110).
The clauses under log entries 10 and 17 rest on the model's choice. -/
def Obligations.BoundaryLoadsTheFrame : Prop :=
  ∀ s : State, s.PulseIsBoundary →
    ∃ t u, exec .frameBoundary s = .next t ∧ exec .zeroCross s = .next t ∧
      let throttled := u.hbo.throttle ≠ s.hbo.throttle
      let marked := ∃ z, (u.zct.zones.get z).mode ≠ (s.zct.zones.get z).mode ∨
        (u.zct.zones.get z).ready ≠ (s.zct.zones.get z).ready
      let mains : List NoticeBody := if s.hbo.mains = .lost then [.mains .present] else []
      let faults := ((List.finRange 12).filter fun z => (s.zct.zones.get z).entersFault (u.zct.zones.get z)).map
        fun z => NoticeBody.zoneFault z.val
      let throttle := if throttled then [NoticeBody.throttle u.hbo.throttle u.hbo.budget u.hbo.totalRequest] else []
      (throttled ∨ marked → t = reexamine u) ∧ (¬ throttled → ¬ marked → t = u) ∧ (s.shc.heldClose = none → t = u) ∧
      t.zct = u.zct ∧ t.hbo = u.hbo ∧
      u.ports = { s.ports with
        press := (s.told .press (mains ++ faults ++ throttle)).ports.press
        trace := (s.told .trace throttle).ports.trace } ∧
      { u with zct := { u.zct with zones := s.zct.zones }, hbo := s.hbo, ports := s.ports } = s ∧
      { t with zct := s.zct, hbo := s.hbo, shc := s.shc, dmi := s.dmi, ports := s.ports } = s ∧
      t.hbo.position = some 0 ∧ t.hbo.mains = .present ∧ t.hbo.frameLength = s.hbo.requestedLength ∧
      t.hbo.requestedLength = s.hbo.requestedLength ∧
      t.hbo.budget = min s.hbo.baseBudget s.hbo.curtailment ∧ t.hbo.baseBudget = s.hbo.baseBudget ∧
      t.hbo.curtailment = s.hbo.curtailment ∧ t.hbo.hysteresis = s.hbo.hysteresis ∧
      t.hbo.totalRequest = sumZones (fun z => (t.hbo.shares.get z).request) ∧
      ∀ z : Fin 12,
        let h := t.hbo.shares.get z
        let y := t.zct.zones.get z
        h.request =
          (if y.mode = .auto ∨ y.mode = .manual then (y.demand * y.active.power + 999) / 1000 else 0) ∧
        (h.cut = true ↔ h.grant < y.demand) ∧
        h.onCount = h.grant * t.hbo.frameLength / 1000 ∧ h.offset = z.val * t.hbo.frameLength / 12 ∧
        (h.output = true ↔ (0 - (h.offset : Int)) % t.hbo.frameLength < h.onCount) ∧
        (y.mode = .off ∨ y.mode = .fault → h.grant = 0 ∧ h.onCount = 0)

/-- In every heat frame, the sum over the zones of on-count times rated power is at most the effective budget times the
frame length, both as taken at that frame's boundary (R44). -/
def Obligations.FrameStaysWithinBudget : Prop :=
  ∀ s : State, s.PulseIsBoundary →
    ∃ t, exec .frameBoundary s = .next t ∧
      sumZones (fun z => (t.hbo.shares.get z).onCount * (t.zct.zones.get z).active.power) ≤
        t.hbo.budget * t.hbo.frameLength

/-- The throttle state after a boundary follows the table of R45 from the total request and the effective budget taken at
that boundary; a boundary at which a zone is cut leaves it THROTTLED. Where the state changes, THROTTLE is set at the press port
and at the trace port with the new state and both figures; where it does not, the trace port is as it was (R45, R46). -/
def Obligations.ThrottleFollowsRequests : Prop :=
  ∀ s : State, s.PulseIsBoundary →
    ∃ t, exec .frameBoundary s = .next t ∧
      (s.hbo.throttle = .normal → (t.hbo.throttle = .throttled ↔ t.hbo.budget < t.hbo.totalRequest)) ∧
      (s.hbo.throttle = .throttled →
        (t.hbo.throttle = .normal ↔ t.hbo.totalRequest * 1000 ≤ t.hbo.budget * (1000 - s.hbo.hysteresis))) ∧
      ((∃ z, (t.hbo.shares.get z).cut = true) → t.hbo.throttle = .throttled) ∧
      let body := NoticeBody.throttle t.hbo.throttle t.hbo.budget t.hbo.totalRequest
      (t.hbo.throttle ≠ s.hbo.throttle → t.Newest .trace body ∧ ⟨body, s.clock⟩ ∈ t.ports.press.notices) ∧
      (t.hbo.throttle = s.hbo.throttle → t.ports.trace = s.ports.trace)

/-- A boundary divides the effective budget among the classes in the order 0, 1, 2: a class that fits is granted its demands
whole, the first that does not is granted them by the factor of 4096ths, and the classes after it nothing; class 0 is the
zones of the closed or curing shot, class 2 the others in STANDBY (R41, R42). -/
def Obligations.AllocationGoesByClass : Prop :=
  ∀ s : State, s.PulseIsBoundary →
    ∃ t, exec .frameBoundary s = .next t ∧
      let b := t.hbo.budget
      let r := fun c => sumZones fun z =>
        if (t.hbo.shares.get z).rank = c then (t.hbo.shares.get z).request else 0
      ∀ z : Fin 12,
        let h := t.hbo.shares.get z
        let d := (t.zct.zones.get z).demand
        let critical := ∃ sh ∈ s.shc.press.toList, sh.phase ∈ [Phase.closing, .bumping, .curing, .cured] ∧
          ∃ rc ∈ s.recipe.toList, ∃ x ∈ sh.enabled, (rc.cavities.get x.1).mask.getLsbD z.val = true
        (h.rank = 0 ↔ critical) ∧ (¬ critical → (h.rank = 1 ↔ s.zct.heatMode = .production)) ∧ h.rank < 3 ∧
        (h.rank = 0 → h.grant = if r 0 ≤ b then d else d * (b * 4096 / r 0) / 4096) ∧
        (h.rank = 1 → h.grant =
          if b < r 0 then 0 else if r 1 ≤ b - r 0 then d else d * ((b - r 0) * 4096 / r 1) / 4096) ∧
        (h.rank = 2 → h.grant =
          if b < r 0 + r 1 then 0
          else if r 2 ≤ b - r 0 - r 1 then d else d * ((b - r 0 - r 1) * 4096 / r 2) / 4096)

/-- Between boundaries a zero-cross advances the frame position and sets every output from its window for it, and changes
nothing else; the mains watch running out switches every heater off, abandons the frame and sets MAINS, LOST, keeping the
figures of the last boundary (R47, R48, R50).
The clauses under log entries 9 and 10 rest on the model's choice. -/
def Obligations.HalfCyclesAndTheMainsWatch : Prop :=
  ∀ s : State,
    (∀ p, s.hbo.mains = .present → s.hbo.position = some p → p + 1 < s.hbo.frameLength →
      let after := { s with hbo := { s.hbo with
        position := some (p + 1)
        shares := Table.ofFn fun z =>
          { s.hbo.shares.get z with
            output := decide (((p + 1 : Nat) - ((s.hbo.shares.get z).offset : Int)) % s.hbo.frameLength <
              (s.hbo.shares.get z).onCount) } } }
      exec .zeroCross s = .next after ∧ exec .frameBoundary s = .next after) ∧
    (s.hbo.mains = .present → ∃ t, exec .mainsLost s = .next t ∧ t.hbo = { s.hbo with
        mains := .lost, position := none
        shares := Table.ofFn fun z => { s.hbo.shares.get z with output := false } } ∧
      (∃ old, t.ports.press.notices = old ++ [⟨.mains .lost, s.clock⟩]) ∧
      { t with hbo := s.hbo, ports := s.ports } = s) ∧
    (s.hbo.mains = .lost → exec .mainsLost s = .next s)

/-! ### Scales -/

/-- SET GAIN, SCALE SETUP and WEIGH START name a scale; one above 1 is answered BAD_ARGUMENT and one outside IDLE BUSY, with
no change. SET GAIN writes the gain alone; SCALE SETUP writes its five values, each taken to the nearer limit (R55, R56, R65). -/
def Obligations.IdleScaleTakesItsSettings : Prop :=
  ∀ (k : Fin 2) (gain band minPly : BitVec 16) (count timeout validity group : BitVec 8) (s : State),
    let x := s.scales.get k
    let n := BitVec.ofNat 8 k.val
    (∀ scale : BitVec 8, 2 ≤ scale.toNat →
      exec (.setGain .charge scale gain) s = .next (s.replied .charge (.bare .badArgument) s) ∧
      exec (.scaleSetup .charge scale band count timeout minPly validity) s =
        .next (s.replied .charge (.bare .badArgument) s) ∧
      exec (.weighStart .charge scale group) s = .next (s.replied .charge (.bare .badArgument) s)) ∧
    (x.state ≠ .idle →
      exec (.setGain .charge n gain) s = .next (s.replied .charge (.bare .busy) s) ∧
      exec (.scaleSetup .charge n band count timeout minPly validity) s =
        .next (s.replied .charge (.bare .busy) s) ∧
      (group.toNat < 4 → exec (.weighStart .charge n group) s = .next (s.replied .charge (.bare .busy) s))) ∧
    (x.state = .idle →
      exec (.setGain .charge n gain) s = .next (s.replied .charge (.bare .ok)
        { s with scales := s.scales.set k { x with gain := gain.toNat } }) ∧
      exec (.scaleSetup .charge n band count timeout minPly validity) s = .next (s.replied .charge
        ⟨if 1 ≤ band.toNat ∧ band.toNat ≤ 500 ∧ 4 ≤ count.toNat ∧ count.toNat ≤ 64 ∧ 2 ≤ timeout.toNat ∧
            timeout.toNat ≤ 60 ∧ 10 ≤ minPly.toNat ∧ minPly.toNat ≤ 5000 ∧ 1 ≤ validity.toNat ∧ validity.toNat ≤ 240
          then .ok else .clamped,
          be 2 (nearest 1 500 band.toNat) ++ be 1 (nearest 4 64 count.toNat) ++ be 1 (nearest 2 60 timeout.toNat)
            ++ be 2 (nearest 10 5000 minPly.toNat) ++ be 1 (nearest 1 240 validity.toNat)⟩
        { s with scales := s.scales.set k { x with
            band := nearest 1 500 band.toNat
            count := nearest 4 64 count.toNat
            timeout := nearest 2 60 timeout.toNat
            minPly := nearest 10 5000 minPly.toNat
            validity := nearest 1 240 validity.toNat } }))

/-- TARE of an IDLE scale with a gain is ACCEPTED: the scale is TARING with an empty window, no reference, and a deadline the
settle timeout away. At the deadline, and not before, the scale is IDLE again with its tare zero kept, and SETTLE_TIMEOUT is
set. A gain of 0 is answered UNCALIBRATED, a scale outside IDLE BUSY (R61, R63).
The clauses under log entries 3 and 9 rest on the model's choice. -/
def Obligations.TareStartsAndTimesOut : Prop :=
  ∀ (k : Fin 2) (s : State),
    let x := s.scales.get k
    let n := BitVec.ofNat 8 k.val
    (∀ scale : BitVec 8, 2 ≤ scale.toNat →
      exec (.tare .charge scale) s = .next (s.replied .charge (.bare .badArgument) s)) ∧
    (x.state ≠ .idle → exec (.tare .charge n) s = .next (s.replied .charge (.bare .busy) s)) ∧
    (x.state = .idle → x.gain = 0 → exec (.tare .charge n) s = .next (s.replied .charge (.bare .uncalibrated) s)) ∧
    (x.state = .idle → x.gain ≠ 0 → ∃ d m, Fits32 (s.clock + x.timeout) s.freeCount d m ∧
      exec (.tare .charge n) s = .next (s.replied .charge (.bare .accepted) { s with
        freeCount := m
        scales := s.scales.set k { x with
          state := .taring, window := [], steadyRun := 0, reference := none, deadline := some d } })) ∧
    (∀ d, x.state = .taring → x.deadline = some d →
      (s.clock < d → exec (.tareTimeout k) s = .next s) ∧
      (d ≤ s.clock → exec (.tareTimeout k) s = .next (setNotice .charge (.settleTimeout k.val .tare) { s with
        scales := s.scales.set k { x with state := .idle, deadline := none, reference := none } }))) ∧
    (x.state ≠ .taring → exec (.tareTimeout k) s = .next s)

/-- A sample of a taring scale joins the window, measured from the reference count; the scale settles once the settle window
is full, usable and within the band for the settle count's number of samples on end, and then the tare zero is the rounded
mean of the eight counts, the tare time now, the scale IDLE, and SETTLED is set. Until then it stays TARING (R58 to R60,
R62).
The clauses under log entry 11 rest on the model's choice. -/
def Obligations.TareSettlesOnTheMean : Prop :=
  ∀ (k : Fin 2) (count : BitVec 24) (s : State) (c : Conversion),
    let x := s.scales.get k
    s.msq.lcConv = some c → c.channel = k.val → x.state = .taring →
      let raw := count.toInt
      let w := weightOf (raw - x.reference.getD raw) x.gain
      let entry : Sample := ⟨some raw, some w, decide (w.natAbs ≤ 65535)⟩
      let window := if x.window.length < 8 then x.window ++ [entry] else x.window.tail ++ [entry]
      let ws := window.filterMap fun e => e.weight
      let steadyNow : Bool := decide (window.length = 8 ∧ (∀ e ∈ window, e.usable = true) ∧
        ∀ a ∈ ws, ∀ b ∈ ws, a - b ≤ (x.band : Int))
      let run := if steadyNow then x.steadyRun + 1 else 0
      ∃ t, exec (.tareSettled k count) s = .next t ∧ exec (.loadCellResult (BitVec.ofNat 8 k.val) .ok count) s = .next t ∧
        (∀ j, j ≠ k → t.scales.get j = s.scales.get j) ∧
        { t with msq := s.msq, scales := s.scales, ports := s.ports } = s ∧
        (steadyNow = false ∨ run < x.count → t.ports = s.ports ∧ t.scales.get k = { x with
          window := window, steadyRun := run, live := (t.scales.get k).live
          reference := some (x.reference.getD raw) }) ∧
        (steadyNow = true → x.count ≤ run →
          let zero := ((window.filterMap fun e => e.raw).sum + 4) / 8
          t.ports = (setNotice .charge (.settledTare k.val zero) s).ports ∧ t.scales.get k = { x with
            state := .idle, window := window, steadyRun := run, live := (t.scales.get k).live
            reference := none, deadline := none, zero := zero, tareTime := some s.clock })

/-- A sample of a capturing scale joins the window by its weight against the tare zero. Once settled at the rounded mean of
the eight weights, a difference to the session's total below the minimum ply is too light and ends the capture without a
ply; any other is captured: the ply of that weight and the armed lot joins the list, the value becomes the total, a first
ply takes the charge counter's number, the class is judged by target and tolerances, and the lot is named once more
(R59, R60, R66 to R70, R72, R85).
The clauses under log entries 3 and 11 rest on the model's choice. -/
def Obligations.PlySettlesOnTheMean : Prop :=
  ∀ (k : Fin 2) (count : BitVec 24) (s : State) (c : Conversion) (e : Session) (lot : Nat),
    let x := s.scales.get k
    s.msq.lcConv = some c → c.channel = k.val → x.state = .capturing → x.session = some e → e.armedLot = some lot →
      let w := weightOf (count.toInt - x.zero) x.gain
      let shown := if 65535 < w then 65535 else w.toNat
      let entry : Sample := ⟨some count.toInt, some shown, decide (w ≤ 65535)⟩
      let window := if x.window.length < 8 then x.window ++ [entry] else x.window.tail ++ [entry]
      let ws := window.filterMap fun e => e.weight
      let steadyNow : Bool := decide (window.length = 8 ∧ (∀ e ∈ window, e.usable = true) ∧
        ∀ a ∈ ws, ∀ b ∈ ws, a - b ≤ (x.band : Int))
      let run := if steadyNow then x.steadyRun + 1 else 0
      let value := ((ws.sum + 4) / 8).toNat
      let diff : Int := value - e.total
      ∃ t, exec (.plySettled k count) s = .next t ∧ exec (.loadCellResult (BitVec.ofNat 8 k.val) .ok count) s = .next t ∧
        (∀ j, j ≠ k → t.scales.get j = s.scales.get j) ∧ t.clock = s.clock ∧
        { t with msq := s.msq, scales := s.scales, ltr := s.ltr, shc := s.shc, ports := s.ports
                 freeCount := s.freeCount } = s ∧
        t.ltr = { s.ltr with lots := t.ltr.lots } ∧ t.shc = { s.shc with chargeCounter := t.shc.chargeCounter } ∧
        (steadyNow = false ∨ run < x.count →
          t.scales.get k = { x with window := window, steadyRun := run, live := (t.scales.get k).live } ∧
            t.ports = s.ports ∧ t.ltr = s.ltr ∧ t.shc = s.shc) ∧
        (steadyNow = true → x.count ≤ run → diff < x.minPly →
          t.scales.get k = { x with
            state := .opened, window := window, steadyRun := run, live := (t.scales.get k).live, deadline := none
            session := some { e with armedLot := none } } ∧
            t.ports = (setNotice .charge (.plyTooLight k.val diff) s).ports ∧
            t.ltr.lots = t.lotsAfter [] (some lot) s.ltr.lots ∧ t.shc = s.shc) ∧
        (steadyNow = true → x.count ≤ run → (x.minPly : Int) ≤ diff →
          let cls : ChargeClass :=
            if (value : Int) < (e.target : Int) - e.lowTol then .low
            else if e.target + e.highTol < value then .high else .accept
          let id := e.chargeId.getD s.shc.chargeCounter
          let ply : Ply := ⟨value - e.total, lot⟩
          t.scales.get k = { x with
            state := .opened, window := window, steadyRun := run, live := (t.scales.get k).live, deadline := none
            session := some { e with
              plies := e.plies ++ [⟨ply, s.clock⟩], total := value, chargeId := some id, cls := some cls
              armedLot := none } } ∧
            t.ports = (setNotice .charge (.settledPly k.val id (e.plies.length + 1) ply value cls) s).ports ∧
            t.ltr.lots = (s.ltr.lots.map fun l => if l.id = lot then { l with refs := l.refs + 1 } else l) ∧
            (e.chargeId.isSome → t.shc = s.shc ∧ t.freeCount = s.freeCount) ∧
            (e.chargeId = none → Fits32 (s.shc.chargeCounter + 1) s.freeCount t.shc.chargeCounter t.freeCount))

/-- WEIGH START of an IDLE scale is answered NO_MOULD with no mould mounted, UNCALIBRATED with a gain of 0, TARE_STALE with no
tare within its validity, BAD_ARGUMENT for a group that no cavity of the recipe names, in that order; else a session opens
for the recipe's group with no ply, and nothing else changes (R64 to R66). -/
def Obligations.WeighStartOpensASession : Prop :=
  ∀ (k : Fin 2) (g : Fin 4) (s : State),
    let x := s.scales.get k
    let request := exec (.weighStart .charge (BitVec.ofNat 8 k.val) (BitVec.ofNat 8 g.val)) s
    let fresh := ∃ t, x.tareTime = some t ∧ t ≤ s.clock ∧ s.clock - t ≤ x.validity * 60
    let stale := ∀ t, x.tareTime = some t → t ≤ s.clock ∧ x.validity * 60 < s.clock - t
    let named := fun r : Recipe => ∃ j : Fin 4, j.val < r.cavityCount ∧ (r.cavities.get j).group = g.val
    (∀ group : BitVec 8, 4 ≤ group.toNat → exec (.weighStart .charge (BitVec.ofNat 8 k.val) group) s =
      .next (s.replied .charge (.bare .badArgument) s)) ∧
    (x.state = .idle → s.recipe = none → request = .next (s.replied .charge (.bare .noMould) s)) ∧
    ∀ r, x.state = .idle → s.recipe = some r →
      (x.gain = 0 → request = .next (s.replied .charge (.bare .uncalibrated) s)) ∧
      (x.gain ≠ 0 → stale → request = .next (s.replied .charge (.bare .tareStale) s)) ∧
      (x.gain ≠ 0 → fresh → ¬ named r → request = .next (s.replied .charge (.bare .badArgument) s)) ∧
      (x.gain ≠ 0 → fresh → named r → request = .next (s.replied .charge (.bare .ok) { s with
        scales := s.scales.set k { x with
          state := .opened
          session := some {
            mouldId := r.mouldId, revision := r.revision, group := g.val
            target := (r.groups.get g).target, lowTol := (r.groups.get g).lowTol, highTol := (r.groups.get g).highTol
            start := s.clock, chargeId := none, plies := [], total := 0, cls := none, armedLot := none } } }))

/-- ADD PLY of an open session with a current lot of live floor life and fewer than six plies is ACCEPTED: the scale is
CAPTURING with an empty window, the lot armed and a deadline the settle timeout away; else NO_LOT, LOT_EXPIRED, BAD_STATE or
BUSY, with no change. At the deadline, and not before, the scale is OPEN again with no ply, its lot released, and
SETTLE_TIMEOUT is set (R67, R71, R72).
The clauses under log entries 3 and 9 rest on the model's choice. -/
def Obligations.CaptureStartsAndTimesOut : Prop :=
  ∀ (k : Fin 2) (s : State),
    let x := s.scales.get k
    let request := exec (.addPly .charge (BitVec.ofNat 8 k.val)) s
    let said := fun st : Status => request = .next (s.replied .charge (.bare st) s)
    (∀ scale : BitVec 8, 2 ≤ scale.toNat →
      exec (.addPly .charge scale) s = .next (s.replied .charge (.bare .badArgument) s)) ∧
    (x.state = .capturing → said .busy) ∧ (x.state = .idle ∨ x.state = .taring → said .badState) ∧
    (∀ e, x.state = .opened → x.session = some e →
      (x.currentLot = none → said .noLot) ∧
      ∀ lot, x.currentLot = some lot →
        let passed := ∃ l, s.lot? lot = some l ∧ l.deadline ≤ s.clock
        (passed → said .lotExpired) ∧
        (¬ passed → 6 ≤ e.plies.length → said .badState) ∧
        (¬ passed → e.plies.length < 6 → ∃ d m, Fits32 (s.clock + x.timeout) s.freeCount d m ∧
          request = .next (s.replied .charge (.bare .accepted) { s with
            freeCount := m
            scales := s.scales.set k { x with
              state := .capturing, window := [], steadyRun := 0, deadline := some d
              session := some { e with armedLot := some lot } } }))) ∧
    (∀ e d, x.state = .capturing → x.session = some e → x.deadline = some d →
      (s.clock < d → exec (.captureTimeout k) s = .next s) ∧
      (d ≤ s.clock → ∃ t, exec (.captureTimeout k) s = .next t ∧
        t.scales = s.scales.set k { x with
          state := .opened, deadline := none, session := some { e with armedLot := none } } ∧
        t.ports = (setNotice .charge (.settleTimeout k.val .ply) s).ports ∧
        t.ltr = { s.ltr with lots := t.lotsAfter [] e.armedLot s.ltr.lots } ∧
        { t with scales := s.scales, ports := s.ports, ltr := s.ltr } = s)) ∧
    (x.state ≠ .capturing → exec (.captureTimeout k) s = .next s)

/-- CLOSE CHARGE of an open session is answered BUSY while CAPTURING, BAD_STATE with no session, no ply, or a class (which it
then names) other than ACCEPT, RACK_FULL with no position free; else the charge enters the rack behind the others at the
lowest free position, QUEUED, or EXPIRED where its out-deadline is reached, with the least of out-time and floor lives as
out-deadline, and the scale is IDLE (R73, R75, R88, R89).
The clauses under log entries 3, 17 and 24 rest on the model's choice: by entry 17 RACK_HIGH comes before CHARGE_EXPIRED. -/
def Obligations.CloseChargeFillsTheRack : Prop :=
  ∀ (k : Fin 2) (s : State),
    let x := s.scales.get k
    let request := exec (.closeCharge .charge (BitVec.ofNat 8 k.val)) s
    let said := fun a : Answer => request = .next (s.replied .charge a s)
    (∀ scale : BitVec 8, 2 ≤ scale.toNat →
      exec (.closeCharge .charge scale) s = .next (s.replied .charge (.bare .badArgument) s)) ∧
    (x.state = .capturing → said (.bare .busy)) ∧
    (x.state = .idle ∨ x.state = .taring → said (.bare .badState)) ∧
    ∀ e, x.state = .opened → x.session = some e →
      (e.plies = [] → said (.bare .badState)) ∧
      (e.plies ≠ [] → e.cls = some .low → said (.named .badState 0)) ∧
      (e.plies ≠ [] → e.cls = some .high → said (.named .badState 2)) ∧
      (e.plies ≠ [] → e.cls = some .accept → (∀ i < 16, ∃ r ∈ s.ltr.rack, r.position = i) → said (.bare .rackFull)) ∧
      ∀ r position, e.plies ≠ [] → e.cls = some .accept → s.recipe = some r → position < 16 →
        (∀ y ∈ s.ltr.rack, y.position ≠ position) → (∀ i < position, ∃ y ∈ s.ltr.rack, y.position = i) →
          let lives := e.plies.filterMap fun p => (s.lot? p.ply.lot).map fun l => l.deadline
          ∃ t d st, request = .next t ∧
            (∀ least, (least = s.clock + r.outTime * 60 ∨ least ∈ lives) → least ≤ s.clock + r.outTime * 60 →
              (∀ a ∈ lives, least ≤ a) → Fits32 least s.freeCount d t.freeCount) ∧
            st = (if s.clock < d then RackState.queued else .expired) ∧
            t.ltr = { s.ltr with rack := s.ltr.rack ++ [{
              charge := {
                id := e.chargeId.getD 0, mouldId := e.mouldId, revision := e.revision, group := e.group
                plies := e.plies.map fun p => p.ply, total := e.total, start := e.start
                lastPly := ((e.plies.getLast?).map fun p => p.time).getD 0, close := s.clock, outDeadline := d }
              position := position, state := st }] } ∧
            t.scales = s.scales.set k { x with state := .idle, session := none, deadline := none } ∧
            t.ports.charge.reply = some ⟨s.ports.charge.turnaround, .ok,
              be 4 (e.chargeId.getD 0) ++ be 1 position ++ be 1 (if s.clock < d then 0 else 1)⟩ ∧
            (s.clock < d → s.ltr.rack.length ≠ 13 → t.ports.charge.notices = s.ports.charge.notices) ∧
            (s.clock < d → s.ltr.rack.length = 13 → t.Newest .charge (.rackHigh 14)) ∧
            (d ≤ s.clock → t.Newest .charge (.chargeExpired (e.chargeId.getD 0) position none)) ∧
            { t with ltr := s.ltr, scales := s.scales, ports := s.ports, freeCount := s.freeCount } = s

/-- DISCARD drops a session and leaves the scale IDLE. A session without plies leaves no trace but the release of its armed
lot; one with plies is sealed as SCRAP under the next number, OVERWEIGHT where its class is HIGH, and its lots are named
once less for each ply; RECORDS_READY is set at the trace port, and HISTORY_LOW after it at the press and trace ports where the
available count is newly below the mark. With no slot available it is answered HISTORY_FULL, with no session BAD_STATE, and
nothing changes (R74, R75, R152, R154, R157, R160, R180).
That the sequence number is a field that may be absent, under a presence byte, is the model's choice (log entry 32), and so are
the order of the notices (log entry 17) and the finding kept between comparisons (log entry 27). -/
def Obligations.DiscardDropsTheSession : Prop :=
  ∀ (k : Fin 2) (s : State),
    let x := s.scales.get k
    let request := exec (.discard .charge (BitVec.ofNat 8 k.val)) s
    let said := fun st : Status => request = .next (s.replied .charge (.bare st) s)
    (∀ scale : BitVec 8, 2 ≤ scale.toNat →
      exec (.discard .charge scale) s = .next (s.replied .charge (.bare .badArgument) s)) ∧
    (x.state = .idle ∨ x.state = .taring → said .badState) ∧
    ∀ e, x.state = .opened ∨ x.state = .capturing → x.session = some e →
      (e.plies = [] → ∃ t, request = .next (s.replied .charge ⟨.ok, be 1 0 ++ be 4 0⟩ t) ∧
        t.scales = s.scales.set k { x with state := .idle, session := none, deadline := none } ∧
        t.ltr = { s.ltr with lots := t.lotsAfter [] e.armedLot s.ltr.lots } ∧
        { t with scales := s.scales, ltr := s.ltr } = s) ∧
      (e.plies ≠ [] → s.canIssue = false → said .historyFull) ∧
      (e.plies ≠ [] → s.canIssue = true →
        let plies := e.plies.map fun p => p.ply
        ∃ t, request = .next (s.replied .charge ⟨.ok, be 1 1 ++ be 4 s.hrg.nextSeq⟩ t) ∧
          t.scales = s.scales.set k { x with state := .idle, session := none, deadline := none } ∧
          t.ltr = { s.ltr with lots := t.lotsAfter plies e.armedLot s.ltr.lots } ∧
          s.hrg.SealedNext t.hrg (.scrap {
            cause := if e.cls = some .high then .overweight else .sessionDiscard
            chargeId := e.chargeId.getD 0, mouldId := e.mouldId, revision := e.revision, group := e.group
            total := e.total, plies := plies, start := s.stamp e.start
            lastPly := s.stamp (((e.plies.getLast?).map fun p => p.time).getD 0), close := none, load := none
            sealTime := s.stamp s.clock, shotCavity := none, timeUnset := !s.hrg.wallSet }) ∧
          t.hrg.below = decide (t.available < s.hrg.lowMark) ∧
          t.ports = { s.ports with
            press := (s.told .press (t.newlyLow s.hrg.below)).ports.press
            trace := (s.told .trace ([.scrapRecords [s.hrg.nextSeq]] ++ t.newlyLow s.hrg.below)).ports.trace } ∧
          { t with scales := s.scales, ltr := s.ltr, hrg := s.hrg, ports := s.ports } = s)

/-! ### Lots and the rack -/

/-- DECLARE LOT makes a lot the scale's current lot: a known lot of the same material is seen again with its deadline kept,
an unknown one is learned with its floor life counted from now and put in its place in the table, evicting from a full table
the entry out of use seen longest ago. It leaves the other scale if it was current there, and the lot it replaces is
released. Refusals change nothing. A lot entry past its aging period and out of use goes (R79 to R83).
The clauses under log entries 3, 8 and 9 rest on the model's choice. -/
def Obligations.LotsAreDeclaredAndAge : Prop :=
  ∀ (k : Fin 2) (lot : BitVec 32) (material minutes : BitVec 16) (s : State),
    let n := BitVec.ofNat 8 k.val
    let request := exec (.declareLot .charge n lot material minutes) s
    let said := fun st : Status => request = .next (s.replied .charge (.bare st) s)
    let moved : Prop := (s.scales.get k).currentLot ≠ some lot.toNat ∧
      ∃ j, j ≠ k ∧ (s.scales.get j).currentLot = some lot.toNat
    let current := fun t : State =>
      (t.scales.get k = { s.scales.get k with currentLot := some lot.toNat }) ∧
      (∀ j, j ≠ k → (moved → t.scales.get j = { s.scales.get j with currentLot := none }) ∧
        (¬ moved → t.scales.get j = s.scales.get j)) ∧
      (moved → ∃ j, j ≠ k ∧ t.ports.charge.notices =
        (setNotice .charge (.lotMoved lot.toNat j.val k.val) s).ports.charge.notices) ∧
      (¬ moved → t.ports.charge.notices = s.ports.charge.notices) ∧
      t.ports.charge.lastStatus = some (if minutes = 0 then .clamped else .ok) ∧
      { t with scales := s.scales, ltr := s.ltr, ports := s.ports, freeCount := s.freeCount } = s
    let freed := if (s.scales.get k).currentLot = some lot.toNat then none else (s.scales.get k).currentLot
    (lot = 0 → said .badArgument) ∧
    (∀ l, lot ≠ 0 → s.lot? lot.toNat = some l →
      (l.material ≠ material.toNat → said .lotConflict) ∧
      (l.material = material.toNat → ∃ t, request = .next t ∧ current t ∧ t.freeCount = s.freeCount ∧
        t.ltr = { s.ltr with lots := t.lotsAfter [] freed (s.ltr.lots.map fun x =>
          if x.id = lot.toNat then { x with lastSeen := s.clock, lastScale := k.val } else x) })) ∧
    (lot ≠ 0 → s.lot? lot.toNat = none →
      (32 ≤ s.ltr.lots.length → (∀ l ∈ s.ltr.lots, s.lotInUse l = true) → said .lotTableFull) ∧
      (s.ltr.lots.length < 32 → ∃ t d, request = .next t ∧ current t ∧
        Fits32 (s.clock + max 1 minutes.toNat * 60) s.freeCount d t.freeCount ∧
        t.ltr = { s.ltr with lots := t.lotsAfter [] freed (insertLot
          ⟨lot.toNat, material.toNat, d, k.val, s.clock, 0⟩ s.ltr.lots) }) ∧
      (∀ old ∈ s.ltr.lots, 32 ≤ s.ltr.lots.length → s.lotInUse old = false →
        (∀ l ∈ s.ltr.lots, s.lotInUse l = false → l ≠ old →
          old.lastSeen < l.lastSeen ∨ (old.lastSeen = l.lastSeen ∧ old.id < l.id)) →
        s.ltr.lots.Pairwise (fun a b => a.id < b.id) →
        ∃ t d, request = .next t ∧ current t ∧
          Fits32 (s.clock + max 1 minutes.toNat * 60) s.freeCount d t.freeCount ∧
          t.ltr = { s.ltr with lots := t.lotsAfter [] freed (insertLot
            ⟨lot.toNat, material.toNat, d, k.val, s.clock, 0⟩ (s.ltr.lots.filter fun l => l.id ≠ old.id)) })) ∧
    ((∀ l ∈ s.ltr.lots, l.lastSeen ≤ s.clock) → exec (.lotAged lot) s = .next { s with ltr := { s.ltr with
      lots := s.ltr.lots.filter fun l =>
        !(decide (l.id = lot.toNat ∧ s.lotInUse l = false ∧ s.ltr.stepAging * 60 < s.clock - l.lastSeen)) } })

/-- DISCARD CHARGE of a waiting charge seals it as SCRAP under the next number, by cause RACK_DISCARD or EXPIRED_DISCARD, and
takes it off the rack; RECORDS_READY is set at the trace port, and HISTORY_LOW after it at the press and trace ports where the
available count is newly below the mark. A staged one is answered BAD_STATE with its cavity, an unknown one NO_CHARGE, no slot
HISTORY_FULL. A record whose out-deadline is the run-second now is marked once, QUEUED becoming EXPIRED, with CHARGE_EXPIRED; at any
other second the event changes nothing (R90, R91, R152, R154, R157, R160).
The clauses under log entries 9, 17 and 27 rest on the model's choice. -/
def Obligations.ChargesAreDiscardedAndExpire : Prop :=
  ∀ (charge : BitVec 32) (s : State),
    let request := exec (.discardCharge .charge charge) s
    (s.rackRecord? charge.toNat = none → request = .next (s.replied .charge (.bare .noCharge) s) ∧
      exec (.chargeExpired charge) s = .next s) ∧
    ∀ r, s.rackRecord? charge.toNat = some r →
      let c := r.charge
      (∀ cavity q late, r.state = .staged cavity q late →
        request = .next (s.replied .charge (.named .badState cavity) s) ∧
        (c.outDeadline = s.clock → late = false → exec (.chargeExpired charge) s = .next
          (setNotice .charge (.chargeExpired c.id r.position (some cavity)) { s with ltr := { s.ltr with
            rack := s.ltr.rack.map fun y => if y.charge.id = c.id then RackRecord.marked y else y } })) ∧
        (late = true → exec (.chargeExpired charge) s = .next s)) ∧
      (c.outDeadline = s.clock → r.state = .queued → exec (.chargeExpired charge) s = .next
        (setNotice .charge (.chargeExpired c.id r.position none) { s with ltr := { s.ltr with
          rack := s.ltr.rack.map fun y => if y.charge.id = c.id then RackRecord.marked y else y } })) ∧
      (r.state = .expired ∨ c.outDeadline ≠ s.clock → exec (.chargeExpired charge) s = .next s) ∧
      (r.state = .queued ∨ r.state = .expired → s.canIssue = false →
        request = .next (s.replied .charge (.bare .historyFull) s)) ∧
      (r.state = .queued ∨ r.state = .expired → s.canIssue = true → ∃ t,
        request = .next (s.replied .charge ⟨.ok, be 4 s.hrg.nextSeq⟩ t) ∧
        t.ltr = { s.ltr with
          rack := s.ltr.rack.filter fun y => y.charge.id ≠ c.id
          lots := t.lotsAfter c.plies none s.ltr.lots } ∧
        s.hrg.SealedNext t.hrg (.scrap {
          cause := if r.state = .queued then .rackDiscard else .expiredDiscard
          chargeId := c.id, mouldId := c.mouldId, revision := c.revision, group := c.group, total := c.total
          plies := c.plies, start := s.stamp c.start, lastPly := s.stamp c.lastPly, close := some (s.stamp c.close)
          load := none, sealTime := s.stamp s.clock, shotCavity := none, timeUnset := !s.hrg.wallSet }) ∧
        t.hrg.below = decide (t.available < s.hrg.lowMark) ∧
        t.ports = { s.ports with
          press := (s.told .press (t.newlyLow s.hrg.below)).ports.press
          trace := (s.told .trace ([.scrapRecords [s.hrg.nextSeq]] ++ t.newlyLow s.hrg.below)).ports.trace } ∧
        { t with ltr := s.ltr, hrg := s.hrg, ports := s.ports } = s)

/-- TAKE CHARGE for an EMPTY cavity of the assembling shot stages the earliest QUEUED charge of the recipe, its revision and
the cavity's group whose out-deadline is the load margin away: a slot is reserved under the next number, the record and the
cavity are STAGED with it. RETURN CHARGE puts a staged charge back in its place, QUEUED or EXPIRED, empties the cavity and
makes the slot VOID. At both the available count is compared with the mark, and HISTORY_LOW is set at the press and trace ports
where it is newly below. Refusals change nothing (R92 to R94, R152, R154, R156).
The clause of the out-deadline's own run-second rests on log entry 30, the model's reading of R94, and the finding kept between
comparisons on log entry 27. -/
def Obligations.ChargesAreStagedAndReturned : Prop :=
  ∀ (k : Fin 4) (s : State) (sh : Shot) (v : Cavity),
    let n := BitVec.ofNat 8 k.val
    let take := exec (.takeCharge .handler n) s
    let back := exec (.returnCharge .handler n) s
    let compared := fun t : State => t.ports = { s.ports with
      press := (s.told .press (t.newlyLow s.hrg.below)).ports.press
      trace := (s.told .trace (t.newlyLow s.hrg.below)).ports.trace }
    (∀ cavity : BitVec 8, 4 ≤ cavity.toNat →
      exec (.takeCharge .handler cavity) s = .next (s.replied .handler (.bare .badArgument) s) ∧
      exec (.returnCharge .handler cavity) s = .next (s.replied .handler (.bare .badArgument) s)) ∧
    (s.shc.assembling = none ∨ (s.shc.assembling = some sh ∧ sh.cavities.get k = none) →
      take = .next (s.replied .handler (.bare .badState) s) ∧
      back = .next (s.replied .handler (.bare .badState) s)) ∧
    (s.shc.assembling = some sh → sh.Holds k v →
      (v.state ≠ .empty → take = .next (s.replied .handler (.bare .badState) s)) ∧
      (v.state ≠ .staged → back = .next (s.replied .handler (.bare .badState) s)) ∧
      (∀ r, v.state = .empty → s.recipe = some r →
        let suits := fun y : RackRecord => y.state = .queued ∧ y.charge.mouldId = r.mouldId ∧
          y.charge.revision = r.revision ∧ y.charge.group = (r.cavities.get k).group ∧
          s.clock + r.loadMargin ≤ y.charge.outDeadline
        ((∀ y ∈ s.ltr.rack, ¬ suits y) → take = .next (s.replied .handler (.bare .noCharge) s)) ∧
        ∀ front y behind, s.ltr.rack = front ++ y :: behind → (∀ z ∈ front, ¬ suits z) → suits y →
          (s.canIssue = false → take = .next (s.replied .handler (.bare .historyFull) s)) ∧
          (s.canIssue = true → ∃ t, take = .next (s.replied .handler ⟨.ok,
              be 4 y.charge.id ++ be 1 y.position ++ be 1 y.charge.group ++ be 2 y.charge.total
                ++ be 4 y.charge.outDeadline ++ be 4 s.hrg.nextSeq⟩ t) ∧
            t.hrg = { s.hrg with
              slots := s.hrg.slots.set s.hrg.writePos (.reserved s.hrg.nextSeq)
              nextSeq := s.hrg.nextSeq + 1, writePos := s.hrg.writePos + 1
              below := decide (t.available < s.hrg.lowMark) } ∧
            compared t ∧
            t.ltr = { s.ltr with rack := s.ltr.rack.map fun z =>
              if z.charge.id = y.charge.id then { z with state := .staged k.val s.hrg.nextSeq false } else z } ∧
            t.shc = { s.shc with assembling := some { sh with cavities := sh.cavities.set k (some
              { v with state := .staged, chargeId := some y.charge.id, sequence := some s.hrg.nextSeq }) } } ∧
            { t with hrg := s.hrg, ltr := s.ltr, shc := s.shc, ports := s.ports } = s)) ∧
      ∀ id q r, v.state = .staged → v.chargeId = some id → v.sequence = some q → s.rackRecord? id = some r →
        ∃ t st, s.ReturnsAs r st ∧ back = .next (s.replied .handler ⟨.ok,
            be 4 id ++ be 1 r.position ++ be 1 (if st = .queued then 0 else 1)⟩ t) ∧
          t.ltr = { s.ltr with rack := s.ltr.rack.map fun z => if z.charge.id = id then { z with state := st } else z } ∧
          t.shc = { s.shc with assembling := some { sh with cavities := sh.cavities.set k (some
            { v with state := .empty, chargeId := none, sequence := none, charge := none, loadTime := none }) } } ∧
          (s.hrg.slots.get (slotOf q) = .reserved q → t.hrg.slots = s.hrg.slots.set (slotOf q) (.void q)) ∧
          t.hrg = { s.hrg with slots := t.hrg.slots, below := decide (t.available < s.hrg.lowMark) } ∧ compared t ∧
          { t with hrg := s.hrg, ltr := s.ltr, shc := s.shc, ports := s.ports } = s)

/-- LOADED, with the handler holding the lock and no press-side shot, passes a staged charge from the rack into the cavity
with its reservation and load time. REMOVE CHARGE, with the handler holding the lock, seals a LOADED cavity's charge as SCRAP
into its reserved slot, empties the cavity, and a held close is examined again. Otherwise both are answered BAD_STATE
(R95, R107, R108, R110). -/
def Obligations.ChargesAreLoadedAndRemoved : Prop :=
  ∀ (k : Fin 4) (s : State) (sh : Shot) (v : Cavity),
    let n := BitVec.ofNat 8 k.val
    let load := exec (.loaded .handler n) s
    let remove := exec (.removeCharge .handler n) s
    (∀ cavity : BitVec 8, 4 ≤ cavity.toNat →
      exec (.loaded .handler cavity) s = .next (s.replied .handler (.bare .badArgument) s) ∧
      exec (.removeCharge .handler cavity) s = .next (s.replied .handler (.bare .badArgument) s)) ∧
    (s.dmi.holder ≠ .handler ∨ s.shc.assembling = none →
      load = .next (s.replied .handler (.bare .badState) s) ∧
      remove = .next (s.replied .handler (.bare .badState) s)) ∧
    (s.dmi.holder = .handler → s.shc.assembling = some sh → sh.Holds k v →
      (v.state ≠ .staged ∨ s.shc.press.isSome → load = .next (s.replied .handler (.bare .badState) s)) ∧
      (v.state ≠ .loaded → remove = .next (s.replied .handler (.bare .badState) s)) ∧
      (∀ id q r, v.state = .staged → s.shc.press = none → v.chargeId = some id → v.sequence = some q →
        s.rackRecord? id = some r →
          load = .next (s.replied .handler ⟨.ok, be 4 id⟩ { s with
            ltr := { s.ltr with rack := s.ltr.rack.filter fun y => y.charge.id ≠ id }
            shc := { s.shc with assembling := some { sh with cavities := sh.cavities.set k (some
              { v with state := .loaded, charge := some r.charge, loadTime := some s.clock }) } } })) ∧
      (∀ c q, v.state = .loaded → v.charge = some c → v.sequence = some q →
        ∃ u, remove = .next (s.replied .handler ⟨.ok, be 4 q⟩ (reexamine u)) ∧
          u.shc = { s.shc with assembling := some { sh with cavities := sh.cavities.set k (some
            { v with state := .empty, chargeId := none, sequence := none, charge := none, loadTime := none }) } } ∧
          (s.hrg.slots.get (slotOf q) = .reserved q → u.hrg = { s.hrg with
            slots := s.hrg.slots.set (slotOf q) (.sealed q (.scrap {
              cause := .removedFromCavity, chargeId := c.id, mouldId := c.mouldId, revision := c.revision
              group := c.group, total := c.total, plies := c.plies, start := s.stamp c.start
              lastPly := s.stamp c.lastPly, close := some (s.stamp c.close), load := v.loadTime.map s.stamp
              sealTime := s.stamp s.clock, shotCavity := some (sh.number, k.val), timeUnset := !s.hrg.wallSet })) }) ∧
          u.ltr = { s.ltr with lots := u.lotsAfter c.plies none s.ltr.lots } ∧
          u.ports = (setNotice .trace (.scrapRecords [q]) s).ports ∧
          { u with shc := s.shc, hrg := s.hrg, ltr := s.ltr, ports := s.ports } = s))

/-! ### Recipes and shots -/

/-- WRITE RECIPE into a slot not mounted: a mould ID of 0, a cavity count outside 1 to 4, a group above 3, an empty mask below
the count, a mask that names a zone above 11, or temperatures, rates or an over-cure limit out of order are answered
BAD_ARGUMENT; else the slot holds the recipe with every setup value at the nearer limit of its range, and the reply is the
slot and the recipe as written (R98, R99).
The clauses under log entry 19 rest on the model's choice. -/
def Obligations.RecipesAreCheckedAndWritten : Prop :=
  ∀ (slot : Fin 8) (b : RecipeBody) (s : State),
    let request := exec (.writeRecipe .press (BitVec.ofNat 8 slot.val) b) s
    let n := b.cavityCount.toNat
    let bad := b.mouldId = 0 ∨ n = 0 ∨ 4 < n ∨
      (∃ k : Fin 4, k.val < n ∧ (3 < (b.groupOf.get k).toNat ∨ b.maskOf.get k = 0)) ∨
      ∃ k, 4096 ≤ (b.maskOf.get k).toNat
    let ordered := (∀ i j : Fin 8, i.val + 1 = j.val → (b.rates.get i).temp.toInt < (b.rates.get j).temp.toInt ∧
        min 1000 (b.rates.get i).rate.toNat ≤ min 1000 (b.rates.get j).rate.toNat) ∧
      nearest 1 4294967294 b.cureTarget.toNat < b.overCure.toNat
    let asGiven := (∀ z, 0 ≤ (b.setpoints.get z).toInt ∧ (b.setpoints.get z).toInt ≤ 2500) ∧
      (∀ i, (b.rates.get i).rate.toNat ≤ 1000) ∧ 1 ≤ b.cureTarget.toNat ∧ b.cureTarget.toNat ≤ 4294967294 ∧
      b.bumpCount.toNat ≤ 5 ∧ 5 ≤ b.demouldWindow.toNat ∧ b.demouldWindow.toNat ≤ 600 ∧ 1 ≤ b.outTime.toNat ∧
      b.outTime.toNat ≤ 1440 ∧ b.loadMargin.toNat ≤ 600 ∧ b.takeLimit.toNat ≤ 3 ∧ b.blindLimit.toNat ≤ 600
    (∀ other : BitVec 8, 8 ≤ other.toNat →
      exec (.writeRecipe .press other b) s = .next (s.replied .press (.bare .badArgument) s)) ∧
    (s.shc.mounted = some slot → request = .next (s.replied .press (.bare .badState) s)) ∧
    (s.shc.mounted ≠ some slot → bad ∨ ¬ ordered → request = .next (s.replied .press (.bare .badArgument) s)) ∧
    (s.shc.mounted ≠ some slot → ¬ bad → ordered → ∃ r st,
      request = .next (s.replied .press ⟨st, be 1 slot.val ++ r.bytes⟩
        { s with shc := { s.shc with recipes := s.shc.recipes.set slot (some r) } }) ∧
      (asGiven → st = .ok) ∧ (¬ asGiven → st = .clamped) ∧
      r.mouldId = b.mouldId.toNat ∧ r.revision = b.revision.toNat ∧ r.cavityCount = n ∧
      (∀ k : Fin 4, r.cavities.get k = if k.val < n then ⟨(b.groupOf.get k).toNat, (b.maskOf.get k).setWidth 12⟩ else ⟨0, 0⟩) ∧
      (∀ g, r.groups.get g = ⟨(b.groups.get g).target.toNat, (b.groups.get g).lowTol.toNat, (b.groups.get g).highTol.toNat⟩) ∧
      (∀ z, (r.setpoints.get z : Int) = max 0 (min 2500 (b.setpoints.get z).toInt)) ∧
      r.cureTarget = nearest 1 4294967294 b.cureTarget.toNat ∧ r.overCure = b.overCure.toNat ∧
      (∀ i, r.rates.get i = ⟨(b.rates.get i).temp.toInt, min 1000 (b.rates.get i).rate.toNat⟩) ∧
      r.bumpCount = min 5 b.bumpCount.toNat ∧ r.demouldWindow = nearest 5 600 b.demouldWindow.toNat ∧
      r.outTime = nearest 1 1440 b.outTime.toNat ∧ r.loadMargin = min 600 b.loadMargin.toNat ∧
      r.takeLimit = (if b.takeLimit = 0 then 2 else min 3 b.takeLimit.toNat) ∧ r.blindLimit = min 600 b.blindLimit.toNat)

/-- MOUNT MOULD mounts a stored recipe while no mould is mounted and no shot is in the table, UNMOUNT takes it off while no
shot, no charge and no weighing session is left, and both derive every pending setpoint afresh; ARM SHOT makes the
ASSEMBLING shot under the shot counter's number with an EMPTY record for each cavity of its mask, and calls the station back
to PRODUCTION. Refusals change nothing (R17, R32, R101, R102, R106).
The clauses under log entries 3 and 17 rest on the model's choice. -/
def Obligations.MouldsAreMountedAndShotsArmed : Prop :=
  ∀ (slot : Fin 8) (mask : BitVec 8) (r : Recipe) (s : State),
    let mount := exec (.mountMould .press (BitVec.ofNat 8 slot.val)) s
    let armed := exec (.armShot .press mask) s
    (∀ other : BitVec 8, 8 ≤ other.toNat →
      exec (.mountMould .press other) s = .next (s.replied .press (.bare .badArgument) s)) ∧
    (s.shc.mounted.isSome ∨ s.tableEmpty = false ∨ s.shc.recipes.get slot = none →
      mount = .next (s.replied .press (.bare .badState) s)) ∧
    (s.shc.mounted = none → s.tableEmpty = true → s.shc.recipes.get slot = some r → ∃ t,
      mount = .next (s.replied .press ⟨.ok, be 2 r.mouldId ++ be 1 r.revision ++ be 1 r.cavityCount⟩ t) ∧
      t.shc = { s.shc with mounted := some slot } ∧
      (∀ z, t.zct.zones.get z = { s.zct.zones.get z with pendingSetpoint :=
        if s.zct.heatMode = .standby then r.setpoints.get z - s.zct.setback else r.setpoints.get z }) ∧
      { t with shc := s.shc, zct := s.zct } = s ∧ t.zct = { s.zct with zones := t.zct.zones }) ∧
    (s.shc.mounted = none ∨ s.tableEmpty = false ∨ s.ltr.rack ≠ [] ∨
        (∃ k, (s.scales.get k).state = .opened ∨ (s.scales.get k).state = .capturing) →
      exec (.unmount .press) s = .next (s.replied .press (.bare .badState) s)) ∧
    (s.recipe = some r → s.tableEmpty = true → s.ltr.rack = [] →
        (∀ k, (s.scales.get k).state = .idle ∨ (s.scales.get k).state = .taring) → ∃ t,
      exec (.unmount .press) s = .next (s.replied .press ⟨.ok, be 2 r.mouldId ++ be 1 r.revision⟩ t) ∧
      t.shc = { s.shc with mounted := none } ∧
      (∀ z, t.zct.zones.get z = { s.zct.zones.get z with pendingSetpoint :=
        let idle := ((s.zct.zones.get z).pendingSetup.getD (s.zct.zones.get z).active).idle
        if s.zct.heatMode = .standby then idle - s.zct.setback else idle }) ∧
      { t with shc := s.shc, zct := s.zct } = s ∧ t.zct = { s.zct with zones := t.zct.zones }) ∧
    (s.shc.mounted = none → armed = .next (s.replied .press (.bare .noMould) s)) ∧
    (s.recipe = some r → mask = 0 ∨ 2 ^ r.cavityCount ≤ mask.toNat ∨ 16 ≤ mask.toNat →
      armed = .next (s.replied .press (.bare .badArgument) s)) ∧
    (s.recipe = some r → mask ≠ 0 → mask.toNat < 2 ^ r.cavityCount → mask.toNat < 16 →
      (s.shc.assembling.isSome → armed = .next (s.replied .press (.bare .badState) s)) ∧
      (s.shc.assembling = none → ∀ i, s.shc.mounted = some i → ∃ t sh, armed = .next t ∧
        t.shc = { s.shc with assembling := some sh, shotCounter := t.shc.shotCounter } ∧
        Fits32 (s.shc.shotCounter + 1) s.freeCount t.shc.shotCounter t.freeCount ∧
        sh.number = s.shc.shotCounter ∧ sh.slot = i.val ∧ sh.mouldId = r.mouldId ∧ sh.revision = r.revision ∧
        sh.phase = .assembling ∧ sh.bumps = 0 ∧ sh.times = ⟨some s.clock, none, none, none, none, none⟩ ∧
        (∀ k : Fin 4, sh.cavities.get k = if mask.getLsbD k.val then some {
          state := .empty, chargeId := none, sequence := none, charge := none, loadTime := none, station := none
          part := none, cure := none, attempts := none, failMark := none, takeTime := none, latency := none
          clear := none, flags := ⟨false, false, false, false, false, false⟩ } else none) ∧
        t.zct.heatMode = .production ∧ t.zct.emptySince = none ∧
        (s.zct.heatMode = .production → t.zct.zones = s.zct.zones ∧ t.ports.press.notices = s.ports.press.notices) ∧
        (s.zct.heatMode = .standby → (∀ z, t.zct.zones.get z =
            { s.zct.zones.get z with pendingSetpoint := r.setpoints.get z }) ∧ t.Newest .press (.standby .production)) ∧
        t.ports.press.reply = some ⟨s.ports.press.turnaround, .ok, be 4 s.shc.shotCounter⟩ ∧
        { t with shc := s.shc, zct := s.zct, ports := s.ports, freeCount := s.freeCount } = s))

/-- CLOSE of the assembling shot is refused, in this order, for a press-side shot, a cavity not LOADED, a charge at its
out-deadline, a needed zone OFF, a needed zone in FAULT; else it is granted where the lock is not the handler's, the needed
zones are READY and the throttle state is NORMAL, and held otherwise, the reply carrying the lock holder, the needed zones not
READY and the throttle state. A held close, examined again, is granted, stays, or
ends with the refusal as its reason, with the cavity or zone where one is named; WITHDRAW CLOSE ends it (R109 to R112, R177,
R180).
The clauses under log entries 9, 18 and 29 rest on the model's choice. -/
def Obligations.CloseIsGrantedHeldOrRefused : Prop :=
  ∀ (s : State) (sh : Shot),
    let request := exec (.close .press) s
    let granted := { s with
      dmi := { s.dmi with holder := .press }
      shc := { s.shc with
        assembling := none, heldClose := none
        press := some { sh with phase := .closing, times := { sh.times with closeGrant := some s.clock } } }
      ports := { s.ports with closeOutcome := some .granted } }
    let ended := fun (h : HeldClose) (why : CloseOutcome) => setNotice .press (.closeEnded h.shot why) { s with
      shc := { s.shc with heldClose := none }, ports := { s.ports with closeOutcome := some why } }
    let refusedWith := fun (a : Answer) (why : CloseOutcome) =>
      request = .next (s.replied .press a s) ∧ ∀ h, s.shc.heldClose = some h → reexamine s = ended h why
    let overdue := fun c : Cavity => ∃ h, c.charge = some h ∧ h.outDeadline ≤ s.clock
    let met := s.dmi.holder ≠ .handler ∧ (∀ z, s.Needs sh z → (s.zct.zones.get z).ready = true) ∧
      s.hbo.throttle = .normal
    let holder := match s.dmi.holder with | .free => 0 | .press => 1 | .handler => 2
    let throttle := match s.hbo.throttle with | .normal => 0 | .throttled => 1
    let heldWith := fun t : State => ∃ mask : Nat, mask < 4096 ∧
      (∀ z : Fin 12, mask.testBit z.val = true ↔ s.Needs sh z ∧ (s.zct.zones.get z).ready = false) ∧
      request = .next (s.replied .press ⟨.held, be 1 holder ++ be 2 mask ++ be 1 throttle⟩ t)
    (s.shc.assembling = none ∨ s.shc.press.isSome → refusedWith (.bare .badState) (.badState none)) ∧
    (s.shc.assembling = some sh → s.shc.press = none →
      (∀ k c, sh.Holds k c → c.state ≠ .loaded → (∀ j d, sh.Holds j d → j < k → d.state = .loaded) →
        refusedWith (.named .badState k.val) (.badState (some k.val))) ∧
      ((∀ k c, sh.Holds k c → c.state = .loaded) →
        (∀ k c, sh.Holds k c → overdue c → (∀ j d, sh.Holds j d → j < k → ¬ overdue d) →
          refusedWith (.named .chargeExpired k.val) (.chargeExpired k.val) ∧
          (∀ h, s.shc.heldClose = some h → exec .loadedChargeDeadline s = .next (ended h (.chargeExpired k.val)))) ∧
        ((∀ k c, sh.Holds k c → ¬ overdue c) →
          exec .loadedChargeDeadline s = .next s ∧
          (∀ z, s.Needs sh z → (s.zct.zones.get z).mode = .off →
            (∀ y, s.Needs sh y → y < z → (s.zct.zones.get y).mode ≠ .off) →
              refusedWith (.named .zoneNotActive z.val) (.zoneNotActive z.val)) ∧
          ((∀ z, s.Needs sh z → (s.zct.zones.get z).mode ≠ .off) →
            (∀ z, s.Needs sh z → (s.zct.zones.get z).mode = .fault →
              (∀ y, s.Needs sh y → y < z → (s.zct.zones.get y).mode ≠ .fault) →
                refusedWith (.named .zoneFault z.val) (.zoneFault z.val)) ∧
            ((∀ z, s.Needs sh z → (s.zct.zones.get z).mode ≠ .fault) →
              (s.shc.heldClose = none → met → request = .next (s.replied .press (.bare .ok) granted)) ∧
              (s.shc.heldClose = none → ¬ met →
                heldWith { s with shc := { s.shc with heldClose := some ⟨sh.number, s.clock⟩ } }) ∧
              (∀ h, s.shc.heldClose = some h → heldWith s ∧
                (met → reexamine s = setNotice .press (.closeGranted h.shot) granted) ∧
                (¬ met → reexamine s = s))))))) ∧
    (s.shc.heldClose = none → exec (.withdrawClose .press) s = .next (s.replied .press (.bare .badState) s) ∧
      exec .loadedChargeDeadline s = .next s ∧ reexamine s = s) ∧
    (∀ h, s.shc.heldClose = some h →
      exec (.withdrawClose .press) s = .next (s.replied .press (.bare .ok) (ended h .withdrawn)))

/-- The press's reports count only with a press-side shot and the press holding the lock: CLOSED takes CLOSING to BUMPING;
BUMP does too and counts, stopping at 255; PRESSURE from either starts the cure: every enabled cavity is CURING with cure
fields at their start, part numbers are issued in cavity order, and BUMPS_SHORT and OUTTIME_EXCEEDED are set where due; the reply
carries the part numbers in that order. In the other phases they are answered OK and change nothing (R113, R114, R123, R180).
The clauses under log entry 3 rest on the model's choice, and so does the form of PRESSURE's reply, whose list of part numbers
is under a presence byte and is marked absent where no cure starts (log entry 32). -/
def Obligations.PressReportsLeadToCure : Prop :=
  ∀ s : State,
    let said := fun a : Answer => fun i : Instr => exec i s = .next (s.replied .press a s)
    (s.shc.press = none ∨ s.dmi.holder ≠ .press → said (.bare .badState) (.closed .press) ∧
      said (.bare .badState) (.bump .press) ∧ said (.bare .badState) (.pressure .press)) ∧
    ∀ sh, s.shc.press = some sh → s.dmi.holder = .press →
      (sh.phase ≠ .closing → said (.bare .ok) (.closed .press)) ∧
      (sh.phase ≠ .closing → sh.phase ≠ .bumping →
        said (.bare .ok) (.bump .press) ∧ said ⟨.ok, be 1 0 ++ be 1 0⟩ (.pressure .press)) ∧
      (sh.phase = .closing → exec (.closed .press) s = .next (s.replied .press (.bare .ok) { s with shc := { s.shc with
        press := some { sh with phase := .bumping, times := { sh.times with closing := some s.clock } } } })) ∧
      (sh.phase = .closing ∨ sh.phase = .bumping →
        exec (.bump .press) s = .next (s.replied .press (.bare .ok) { s with shc := { s.shc with
          press := some { sh with
            phase := .bumping, bumps := min 255 (sh.bumps + 1)
            times := { sh.times with
              closing := if sh.phase = .closing then some s.clock else sh.times.closing } } } })) ∧
      (∀ r, sh.phase = .closing ∨ sh.phase = .bumping → s.recipe = some r →
        ∃ t sh', exec (.pressure .press) s = .next (s.replied .press
            ⟨.ok, be 1 1 ++ beList (sh'.enabled.map fun x => be 4 (x.2.part.getD 0))⟩ t) ∧
          t.shc = { s.shc with press := some sh', partCounter := t.shc.partCounter } ∧
          sh' = { sh with
            phase := .curing, cavities := sh'.cavities
            times := { sh.times with
              closing := if sh.phase = .closing then some s.clock else sh.times.closing
              cureStart := some s.clock } } ∧
          (∀ k, sh.cavities.get k = none → sh'.cavities.get k = none) ∧
          (∀ k c, sh.Holds k c → ∃ part, sh'.Holds k { c with
            state := .curing, station := some s.shc.station, part := some part
            cure := some { index := 0, seconds := 0, minT := none, maxT := none, blind := 0, throttled := 0
                           accounting := true, last := none }
            flags := { c.flags with
              bumpsShort := c.flags.bumpsShort || decide (sh.bumps < r.bumpCount)
              outtimeExceeded := c.flags.outtimeExceeded ||
                decide (∃ h, c.charge = some h ∧ h.outDeadline ≤ s.clock) } } ∧
            (s.shc.partCounter + 4 ≤ Config.maxWord →
              part = s.shc.partCounter + ((List.finRange 4).filter fun j =>
                decide (j < k) && (sh.cavities.get j).isSome).length)) ∧
          (s.shc.partCounter + 4 ≤ Config.maxWord → t.freeCount = s.freeCount ∧
            t.shc.partCounter = s.shc.partCounter + sh.enabled.length) ∧
          { t with shc := s.shc, freeCount := s.freeCount } = s)

/-- OPEN is answered OK for a CURED shot, HELD for a CURING one, which holds it, and BAD_STATE otherwise. OPENED from CURING
or CURED opens the mould: the shot is OPEN with its demould window running, OPENED_EARLY where it was still CURING, a held
open dropped; from ABORTED it frees the entry; from CLOSING or BUMPING it scraps the charges, with RECORDS_READY at the trace
port, and frees the entry. Each releases the press's hold on the lock, which passes to a pending claim with CLAIM_GRANTED, sets
OPENED, and has a held close examined again (R115 to R117, R138, R140, R157).
The clauses under log entries 3 and 17 rest on the model's choice, and so does the order of the numbers in RECORDS_READY (log
entry 34). -/
def Obligations.OpeningReleasesTheMould : Prop :=
  ∀ s : State,
    (s.shc.press = none → exec (.openPress .press) s = .next (s.replied .press (.bare .badState) s) ∧
      exec (.opened .press) s = .next (s.replied .press (.bare .badState) s)) ∧
    let passes := s.dmi.holder = .press ∧ s.dmi.claim.isSome
    let claimed := fun u : State => u.ports.claimOutcome = (if passes then some .granted else s.ports.claimOutcome)
    let claim : List NoticeBody := if passes then [.claimGranted s.clock] else []
    ∀ sh, s.shc.press = some sh →
      (sh.phase = .cured → exec (.openPress .press) s = .next (s.replied .press (.bare .ok) s)) ∧
      (sh.phase = .curing → exec (.openPress .press) s = .next (s.replied .press (.bare .held)
        { s with shc := { s.shc with heldOpen := some (s.shc.heldOpen.getD sh.number) } })) ∧
      (sh.phase ≠ .cured → sh.phase ≠ .curing →
        exec (.openPress .press) s = .next (s.replied .press (.bare .badState) s)) ∧
      (sh.phase = .opened → exec (.opened .press) s = .next (s.replied .press (.bare .ok) s)) ∧
      (∀ r, sh.phase = .curing ∨ sh.phase = .cured → s.recipe = some r →
        ∃ u d, exec (.opened .press) s = .next (s.replied .press (.bare .ok) (reexamine u)) ∧
          Fits32 (s.clock + r.demouldWindow) s.freeCount d u.freeCount ∧
          u.shc = { s.shc with heldOpen := none, press := some { sh with
            phase := .opened, times := { sh.times with opening := some s.clock }
            cavities := Table.ofFn fun k => (sh.cavities.get k).map fun c => { c with
              attempts := some 0, failMark := none, takeTime := none, latency := none, clear := none
              flags := { c.flags with openedEarly := c.flags.openedEarly || decide (sh.phase = .curing) } } } } ∧
          u.dmi = { s.dmi.pressReleased with demould := some {
            engaged := false, grant := false, heldEject := false, count := 0, engageMark := 0, deadline := d
            lateGiven := false } } ∧
          u.ports.openOutcome = (if s.shc.heldOpen.isSome then some .opened else s.ports.openOutcome) ∧
          claimed u ∧ u.ports.handler = (s.told .handler (claim ++ [.opened sh.number sh.phase])).ports.handler ∧
          u.Newest .handler (.opened sh.number sh.phase) ∧
          { u.ports with
            handler := s.ports.handler, openOutcome := s.ports.openOutcome, claimOutcome := s.ports.claimOutcome } = s.ports ∧
          { u with shc := s.shc, dmi := s.dmi, ports := s.ports, freeCount := s.freeCount } = s) ∧
      (sh.phase = .aborted ∨ sh.phase = .closing ∨ sh.phase = .bumping →
        ∃ u, exec (.opened .press) s = .next (s.replied .press (.bare .ok) (reexamine u)) ∧
          u.shc = { s.shc with press := none } ∧ u.dmi = s.dmi.pressReleased ∧
          u.zct = { s.zct with emptySince := u.emptyAfter s.zct.emptySince } ∧
          claimed u ∧ u.ports.handler = (s.told .handler ((if sh.phase = .aborted then [] else [.shotAborted sh.number]) ++ claim
            ++ [.opened sh.number sh.phase])).ports.handler ∧
          u.Newest .handler (.opened sh.number sh.phase) ∧
          u.ports.trace = (s.told .trace (if sh.phase = .aborted then [] else sh.readyScraps)).ports.trace ∧
          { u.ports with
            handler := s.ports.handler, trace := s.ports.trace, claimOutcome := s.ports.claimOutcome } = s.ports ∧
          (sh.phase = .aborted → u.hrg = s.hrg ∧ u.ltr = s.ltr) ∧
          (sh.phase ≠ .aborted → u.hrg = { s.hrg with slots := u.hrg.slots } ∧
            u.ltr = { s.ltr with
              lots := u.lotsAfter ((heldCavities sh.enabled).flatMap fun x => (x.2.charge.map fun h => h.plies).getD []) none
                s.ltr.lots } ∧
            ∀ k c h q, sh.Holds k c → c.charge = some h → c.sequence = some q →
              (∀ j d, j ≠ k → sh.Holds j d → d.sequence ≠ some q) → s.hrg.slots.get (slotOf q) = .reserved q →
                u.hrg.slots.get (slotOf q) = .sealed q
                  (.scrap (scrapRecord s .shotAborted h (some h.close) c.loadTime (some (sh.number, k.val))))) ∧
          { u with shc := s.shc, dmi := s.dmi, zct := s.zct, hrg := s.hrg, ltr := s.ltr, ports := s.ports } = s)

/-- ABORT SHOT of the assembling shot frees its entry, returns its staged charges to the rack, makes their slots VOID, seals
its loaded ones as SCRAP and ends its held close; of the press-side shot in CLOSING or BUMPING it seals the charges and leaves
the shot ABORTED holding none, with the lock as it was; of any other phase it is answered BAD_STATE, and of no shot
BAD_ARGUMENT. PRODUCTION RESET aborts both shots so, ends the held close and a pending claim, and answers with the numbers of
the shots aborted, but is answered BAD_STATE from cure to opening. Each abort sets RECORDS_READY at the trace port, where it seals
a record, and SHOT_ABORTED at the handler port; at each slot it makes VOID the available count is compared, and no abort sets
HISTORY_LOW. No other slot, charge, lot or notice changes (R29, R85, R94, R114, R118, R120, R154, R156, R157).
The clauses under log entries 17, 21, 27 and 30 rest on the model's choice, and so does the order of the numbers in the replies and
in RECORDS_READY (log entry 34). -/
def Obligations.AbortsReturnOrScrapTheCharges : Prop :=
  ∀ (s : State) (shot : BitVec 32),
    let request := exec (.abortShot .press shot) s
    let reset := exec (.productionReset .press) s
    let returned := fun (sh : Shot) (t : State) =>
      t.ltr.rack.length = s.ltr.rack.length ∧
        ∀ (i : Nat) (x r : RackRecord), s.ltr.rack[i]? = some x → s.rackRecord? x.charge.id = some r →
          let staged := ∃ k c q, sh.Holds k c ∧ c.state = .staged ∧ c.chargeId = some x.charge.id ∧ c.sequence = some q
          (staged → ∃ y, s.ReturnsAs r y ∧ t.ltr.rack[i]? = some { x with state := y }) ∧
            (¬ staged → t.ltr.rack[i]? = some x)
    let voided := fun (sh : Shot) (t : State) => ∀ k c id q, sh.Holds k c → c.state = .staged → c.chargeId = some id →
      c.sequence = some q → (s.rackRecord? id).isSome → s.hrg.slots.get (slotOf q) = .reserved q →
        t.hrg.slots.get (slotOf q) = .void q
    let noneStaged := ∀ sh k c, s.shc.assembling = some sh → sh.Holds k c → c.state ≠ .staged
    let aborted := fun (shots : List Shot) (t : State) =>
      (∀ sh ∈ shots, ∀ k c h q, sh.Holds k c → c.state ≠ .staged → c.charge = some h → c.sequence = some q →
        (∀ other ∈ shots, ∀ j d, other.Holds j d → d.sequence = some q → other = sh ∧ j = k) →
          s.hrg.slots.get (slotOf q) = .reserved q → t.hrg.slots.get (slotOf q) = .sealed q
            (.scrap (scrapRecord s .shotAborted h (some h.close) c.loadTime (some (sh.number, k.val))))) ∧
      (∀ i, (∀ sh ∈ shots, ∀ k c q, sh.Holds k c → c.sequence = some q → slotOf q ≠ i) →
        t.hrg.slots.get i = s.hrg.slots.get i) ∧
      t.hrg = { s.hrg with slots := t.hrg.slots, below := t.hrg.below } ∧
      t.ltr = { s.ltr with rack := t.ltr.rack, lots := t.lotsAfter (shots.flatMap Shot.heldPlies) none s.ltr.lots } ∧
      t.ports.handler = (s.told .handler (shots.map fun sh => .shotAborted sh.number)).ports.handler ∧
      (∀ sh, shots.getLast? = some sh → sealSequences sh.enabled ≠ [] →
        t.Newest .trace (.scrapRecords (sealSequences sh.enabled))) ∧
      (s.LowCompared ∨ noneStaged →
        t.ports.trace = (s.told .trace (shots.flatMap Shot.readyScraps)).ports.trace) ∧
      (s.LowCompared → t.LowCompared) ∧ (noneStaged → t.hrg.below = s.hrg.below) ∧
      { t.ports with
        press := s.ports.press, handler := s.ports.handler, trace := s.ports.trace
        closeOutcome := s.ports.closeOutcome, claimOutcome := s.ports.claimOutcome } = s.ports
    let closeEnds := fun (reason : CloseOutcome) (t : State) =>
      t.ports.closeOutcome = (if s.shc.heldClose.isSome then some reason else s.ports.closeOutcome) ∧
        (s.LowCompared ∨ noneStaged → t.ports.press =
          (s.told .press (s.shc.heldClose.toList.map fun h => .closeEnded h.shot reason)).ports.press)
    let numbers := fun sh : Shot => beList ((sealSequences sh.enabled).map (be 4))
    let empty := fun sh : Shot => { sh with
      phase := .aborted
      cavities := Table.ofFn fun k => (sh.cavities.get k).map fun c => { c with
        state := .empty, chargeId := none, sequence := none, charge := none, loadTime := none } }
    (∀ sh, s.shc.assembling = some sh → sh.number = shot.toNat →
      ∃ t, request = .next (s.replied .press ⟨.ok, numbers sh⟩ t) ∧
        t.shc = { s.shc with assembling := none, heldClose := none } ∧ closeEnds .aborted t ∧
        t.ports.claimOutcome = s.ports.claimOutcome ∧
        t.zct = { s.zct with emptySince := t.emptyAfter s.zct.emptySince } ∧
        returned sh t ∧ voided sh t ∧ aborted [sh] t ∧
        { t with shc := s.shc, zct := s.zct, ltr := s.ltr, hrg := s.hrg, ports := s.ports } = s) ∧
    (∀ sh, (∀ other, s.shc.assembling = some other → other.number ≠ shot.toNat) → s.shc.press = some sh →
      sh.number = shot.toNat →
        (sh.phase = .closing ∨ sh.phase = .bumping →
          ∃ t, request = .next (s.replied .press ⟨.ok, numbers sh⟩ t) ∧
            t.shc = { s.shc with press := some (empty sh) } ∧ t.ltr.rack = s.ltr.rack ∧ aborted [sh] t ∧
            t.ports.press = s.ports.press ∧ t.ports.closeOutcome = s.ports.closeOutcome ∧
            t.ports.claimOutcome = s.ports.claimOutcome ∧
            { t with shc := s.shc, ltr := s.ltr, hrg := s.hrg, ports := s.ports } = s) ∧
        (sh.phase ≠ .closing → sh.phase ≠ .bumping → request = .next (s.replied .press (.bare .badState) s))) ∧
    ((∀ other, s.shc.assembling = some other → other.number ≠ shot.toNat) →
      (∀ other, s.shc.press = some other → other.number ≠ shot.toNat) →
        request = .next (s.replied .press (.bare .badArgument) s)) ∧
    (∀ sh, s.shc.press = some sh → sh.phase = .curing ∨ sh.phase = .cured ∨ sh.phase = .opened →
      reset = .next (s.replied .press (.bare .badState) s)) ∧
    ((∀ sh, s.shc.press = some sh → sh.phase ≠ .curing ∧ sh.phase ≠ .cured ∧ sh.phase ≠ .opened) →
      ∃ t, reset = .next (s.replied .press ⟨.ok, beList (s.Aborts.map fun sh => be 4 sh.number)⟩ t) ∧
        t.shc = { s.shc with
          assembling := none, heldClose := none
          press := s.shc.press.map fun sh => if sh.phase = .closing ∨ sh.phase = .bumping then empty sh else sh } ∧
        t.dmi = { s.dmi with claim := none } ∧
        t.ports.claimOutcome = (if s.dmi.claim.isSome then some .productionReset else s.ports.claimOutcome) ∧
        closeEnds .productionReset t ∧ aborted s.Aborts t ∧
        (∀ sh, s.shc.assembling = some sh →
          t.zct = { s.zct with emptySince := t.emptyAfter s.zct.emptySince } ∧ returned sh t ∧ voided sh t) ∧
        (s.shc.assembling = none → t.zct = s.zct ∧ t.ltr.rack = s.ltr.rack) ∧
        { t with shc := s.shc, zct := s.zct, ltr := s.ltr, dmi := s.dmi, hrg := s.hrg, ports := s.ports } = s)

/-! ### Cure -/

/-- The rate of an effective temperature in a table of rising temperatures: 0 below the lowest breakpoint, the highest
breakpoint's rate at or above it, and between neighbours the line through them, its quotient cut toward zero (R127). -/
def Obligations.RateFollowsTheTable : Prop :=
  ∀ (table : Table Breakpoint 8) (t : Int),
    (∀ i j : Fin 8, i < j → (table.get i).temp < (table.get j).temp) →
    (∀ i j : Fin 8, i < j → (table.get i).rate ≤ (table.get j).rate) →
      (t < (table.get 0).temp → rateOf table.toList t = 0) ∧
      ((table.get 7).temp ≤ t → rateOf table.toList t = (table.get 7).rate) ∧
      ∀ i j : Fin 8, i.val + 1 = j.val → (table.get i).temp ≤ t → t < (table.get j).temp →
        (rateOf table.toList t : Int) = (table.get i).rate +
          ((t - (table.get i).temp) * ((table.get j).rate - (table.get i).rate)).tdiv
            ((table.get j).temp - (table.get i).temp)

/-- At the step of the run clock each accounted cavity of the press-side shot counts one second: blind where a zone of its
mask is not judged OK, else its index rises by the rate of the least of its zones' temperatures, held in 32 bits and never
falling, and its extremes follow; a cut zone counts a throttled second. A CURING shot whose every index has reached the
target becomes CURED, a held open is granted, and CURED is set. With no deadline due nothing else changes, of the shot, of its
cavities and of the ports (R124 to R126, R128 to R131, R115).
The clauses under log entries 3, 7, 8 and 17 rest on the model's choice: by entry 17 OPEN_GRANTED comes before CURED. -/
def Obligations.RunSecondCountsTheCure : Prop :=
  ∀ s : State, ∃ t, exec .runSecond s = .next t ∧ (s.clock < Config.maxWord → t.clock = s.clock + 1) ∧
    t.msq = s.msq ∧ t.hbo = s.hbo ∧ t.hrg = s.hrg ∧ t.dmi.holder = s.dmi.holder ∧ t.pending = s.pending ∧
    (s.NothingDue → (s.clock < Config.maxWord → t.freeCount = s.freeCount) ∧
      { t with
        clock := s.clock, freeCount := s.freeCount, shc := s.shc, ports := s.ports
        zct := { t.zct with stepDelay := s.zct.stepDelay }, ltr := { t.ltr with stepAging := s.ltr.stepAging } } = s ∧
      t.shc = { s.shc with press := t.shc.press, heldOpen := t.shc.heldOpen } ∧
      (s.shc.press = none ∨ s.recipe = none → t.shc = s.shc ∧ t.ports = s.ports)) ∧
    ∀ sh r, s.shc.press = some sh → s.recipe = some r → ∃ sh', t.shc.press = some sh' ∧
      sh' = { sh with cavities := sh'.cavities, phase := sh'.phase, times := sh'.times } ∧
      (s.NothingDue → ∀ k, (∀ c, sh.Holds k c → c.cure = none) → sh'.cavities.get k = sh.cavities.get k) ∧
      (∀ k c u, sh.Holds k c → c.cure = some u → ∃ c' u', sh'.Holds k c' ∧ c'.cure = some u' ∧ c'.state = c.state ∧
        c'.charge = c.charge ∧ (s.NothingDue → c' = { c with cure := some u' }) ∧
        let inMask := fun z : Fin 12 => (r.cavities.get k).mask.getLsbD z.val = true
        let accounted := (c.state = .curing ∧ (sh.phase = .curing ∨ sh.phase = .cured ∨ sh.phase = .opened)) ∨
          (c.state = .stuck ∧ sh.phase = .opened)
        let cut := ∃ z, inMask z ∧ (s.hbo.shares.get z).cut = true
        (u.index ≤ Config.maxWord → u.index ≤ u'.index) ∧
        (¬ accounted → u' = u) ∧
        (accounted →
          u'.seconds = min Config.maxWord (u.seconds + 1) ∧ u'.accounting = u.accounting ∧
          (cut → u'.throttled = min 65535 (u.throttled + 1)) ∧ (¬ cut → u'.throttled = u.throttled) ∧
          ((∃ z, inMask z ∧ t.judged z ≠ .ok) → u'.blind = min 65535 (u.blind + 1) ∧ u'.index = u.index ∧
            u'.minT = u.minT ∧ u'.maxT = u.maxT ∧ u'.last = none) ∧
          (∀ m, (∀ z, inMask z → t.judged z = .ok ∧ m ≤ (s.msq.tc.get z).value) →
            (∃ z, inMask z ∧ (s.msq.tc.get z).value = m) →
              u'.blind = u.blind ∧ u'.index = min Config.maxWord (u.index + rateOf r.rates.toList m) ∧
              u'.minT = some (min m (u.minT.getD m)) ∧ u'.maxT = some (max m (u.maxT.getD m)) ∧
              u'.last = some (m, rateOf r.rates.toList m)))) ∧
      let target := ∀ k c', sh'.Holds k c' → r.cureTarget ≤ (c'.cure.map fun u => u.index).getD 0
      (sh.phase = .curing → target → sh'.phase = .cured ∧ sh'.times = { sh.times with cured := some t.clock } ∧
        let cured : Notice := ⟨.cured sh.number t.clock
          (sh'.enabled.map fun x => (x.1.val, (x.2.cure.map fun u => u.index).getD 0)), t.clock⟩
        (s.NothingDue → t.ports = { s.ports with
          press := ({ s with clock := t.clock }.told .press
            ((s.shc.heldOpen.toList.map NoticeBody.openGranted) ++ [cured.body])).ports.press
          openOutcome := if s.shc.heldOpen.isSome then some .granted else s.ports.openOutcome }) ∧
        t.shc.heldOpen = none ∧ (s.shc.heldOpen = none → t.ports.press.notices.getLast? = some cured) ∧
        (∀ n, s.shc.heldOpen = some n → t.ports.openOutcome = some .granted ∧
          ∃ old, t.ports.press.notices = old ++ [⟨.openGranted n, t.clock⟩, cured])) ∧
      (sh.phase ≠ .curing ∨ ¬ target → sh'.phase = sh.phase ∧ sh'.times = sh.times ∧ t.shc.heldOpen = s.shc.heldOpen ∧
        (s.NothingDue → t.ports = s.ports))

/-! ### The lock and the demould -/

/-- ZONE CLAIM takes a FREE lock, is held pending while the press has it, and is answered OK by its holder; ZONE RELEASE frees
the handler's lock or drops its pending claim; ZONE RECLAIM takes the lock from the handler, ends a held eject and flags the
parts left in an open mould. ENGAGED falls with the handler's hold, and a held close is examined again (R136 to R139). -/
def Obligations.TheLockPassesBetweenTheParties : Prop :=
  ∀ s : State,
    let claim := exec (.zoneClaim .handler) s
    let release := exec (.zoneRelease .handler) s
    let recl := exec (.zoneReclaim .press) s
    let letGo : Dmi := { s.dmi with
      holder := .free, demould := s.dmi.demould.map fun d => { d with engaged := false, grant := false } }
    (s.dmi.holder = .free →
      claim = .next (s.replied .handler (.bare .ok) (reexamine { s with dmi := { s.dmi with holder := .handler } })) ∧
      release = .next (s.replied .handler (.bare .ok) s)) ∧
    (s.dmi.holder = .handler →
      claim = .next (s.replied .handler (.bare .ok) s) ∧
      release = .next (s.replied .handler (.bare .ok) (reexamine { s with dmi := letGo }))) ∧
    (s.dmi.holder = .press →
      claim = .next (s.replied .handler (.bare .held)
        { s with dmi := { s.dmi with claim := some (s.dmi.claim.getD s.clock) } }) ∧
      release = .next (s.replied .handler (.bare .ok) { s with
        dmi := { s.dmi with claim := none }
        ports := { s.ports with claimOutcome := if s.dmi.claim.isSome then some .withdrawn else s.ports.claimOutcome } })) ∧
    (s.dmi.holder ≠ .handler → recl = .next (s.replied .press (.bare .badState) s)) ∧
    (s.dmi.holder = .handler →
      let left := fun c : Cavity => decide (c.state = .curing ∨ c.state = .stuck)
      let flag := fun c : Cavity => if left c then { c with flags := { c.flags with forcedRelease := true } } else c
      ∃ u, recl = .next (s.replied .press (.bare .ok) (reexamine u)) ∧
        u.dmi = { letGo with demould := letGo.demould.map fun d => { d with heldEject := false } } ∧
        u.ports.ejectOutcome =
          (if s.dmi.demould.any (fun d => d.heldEject) then some .reclaimed else s.ports.ejectOutcome) ∧
        (∀ sh, s.shc.press = some sh → sh.phase = .opened →
          u.Newest .handler (.lockReclaimed s.clock (sh.enabled.filter fun x => left x.2).length) ∧
          u.shc = { s.shc with press := some { sh with
            cavities := Table.ofFn fun k => (sh.cavities.get k).map flag } }) ∧
        ((∀ sh, s.shc.press = some sh → sh.phase ≠ .opened) →
          u.Newest .handler (.lockReclaimed s.clock 0) ∧ u.shc = s.shc) ∧
        { u with dmi := s.dmi, shc := s.shc, ports := s.ports } = s)

/-- ENGAGED, EJECT and EJECTED belong to the press-side shot in OPEN and are answered BAD_STATE without it. ENGAGED, from the
handler holding the lock, records the ejection count and grants a held eject; EJECT is granted under ENGAGED, held without
it, refused at 65,535 ejections; EJECTED uses up a grant, counts the ejection and sets EJECTED, and without a grant is
answered BAD_STATE (R141, R142, R144). -/
def Obligations.EjectionWaitsForEngaged : Prop :=
  ∀ s : State,
    let engage := exec (.engaged .handler) s
    let ej := exec (.eject .press) s
    let done := exec (.ejected .press) s
    ((∀ sh, s.shc.press = some sh → sh.phase ≠ .opened) ∨ s.dmi.demould = none →
      engage = .next (s.replied .handler (.bare .badState) s) ∧ ej = .next (s.replied .press (.bare .badState) s) ∧
      done = .next (s.replied .press (.bare .badState) s)) ∧
    ∀ sh d, s.shc.press = some sh → sh.phase = .opened → s.dmi.demould = some d →
      let withDemould := fun d' : Demould => { s with dmi := { s.dmi with demould := some d' } }
      (s.dmi.holder ≠ .handler → engage = .next (s.replied .handler (.bare .badState) s)) ∧
      (s.dmi.holder = .handler → d.engaged = true → engage = .next (s.replied .handler (.bare .ok) s)) ∧
      (s.dmi.holder = .handler → d.engaged = false → d.heldEject = false →
        engage = .next (s.replied .handler (.bare .ok) (withDemould { d with engaged := true, engageMark := d.count }))) ∧
      (s.dmi.holder = .handler → d.engaged = false → d.heldEject = true →
        ∃ t, engage = .next (s.replied .handler (.bare .ok) t) ∧
          t.dmi = { s.dmi with demould := some { d with
            engaged := true, engageMark := d.count, grant := true, heldEject := false } } ∧
          t.ports.ejectOutcome = some .granted ∧ t.Newest .press (.ejectGranted sh.number) ∧
          { t with dmi := s.dmi, ports := s.ports } = s) ∧
      (65535 ≤ d.count → ej = .next (s.replied .press (.bare .badState) s)) ∧
      (d.count < 65535 → d.grant = true → ej = .next (s.replied .press (.bare .ok) s)) ∧
      (d.count < 65535 → d.grant = false → d.engaged = true →
        ej = .next (s.replied .press (.bare .ok) (withDemould { d with grant := true }))) ∧
      (d.count < 65535 → d.grant = false → d.engaged = false →
        ej = .next (s.replied .press (.bare .held) (withDemould { d with heldEject := true }))) ∧
      (d.grant = false → done = .next (s.replied .press (.bare .badState) s)) ∧
      (d.grant = true → done = .next (s.replied .press ⟨.ok, be 2 (d.count + 1)⟩
        (setNotice .handler (.ejected sh.number (d.count + 1)) (withDemould { d with grant := false, count := d.count + 1 }))))

/-- PART TAKEN and TAKE FAIL bind a CURING cavity of the shot in OPEN, under the handler's hold and ENGAGED, once an ejection
has followed the engagement and the cavity's last failure; CLEAR CAVITY a CURING or STUCK one while the press does not hold
the lock. A taken or cleared part stops counting cure, a failure at the take limit makes the cavity STUCK; once every cavity
is out, each part's record is sealed with its disposition, SCRAP, SUSPECT or GOOD, decided from its cure fields and flags, the
entry freed and a held eject ended. The demould window, once over, flags the parts left (R119, R143, R145 to R148, R161).
The clauses under log entries 9, 17 and 28 rest on the model's choice. -/
def Obligations.PartsLeaveTheMouldAndAreSealed : Prop :=
  ∀ (s : State) (k : Fin 4) (disposition : BitVec 8),
    let n := BitVec.ofNat 8 k.val
    let take := exec (.partTaken .handler n) s
    let fail := exec (.takeFail .handler n) s
    let clr := exec (.clearCavity .press n disposition) s
    (∀ cavity : BitVec 8, 4 ≤ cavity.toNat →
      exec (.partTaken .handler cavity) s = .next (s.replied .handler (.bare .badArgument) s) ∧
      exec (.takeFail .handler cavity) s = .next (s.replied .handler (.bare .badArgument) s) ∧
      exec (.clearCavity .press cavity disposition) s = .next (s.replied .press (.bare .badArgument) s)) ∧
    (2 ≤ disposition.toNat → clr = .next (s.replied .press (.bare .badArgument) s)) ∧
    ((∀ sh, s.shc.press = some sh → sh.phase ≠ .opened) →
      take = .next (s.replied .handler (.bare .badState) s) ∧ fail = .next (s.replied .handler (.bare .badState) s) ∧
      (disposition.toNat < 2 → clr = .next (s.replied .press (.bare .badState) s)) ∧ exec .demouldLate s = .next s) ∧
    ∀ sh d c r, s.shc.press = some sh → sh.phase = .opened → s.dmi.demould = some d → sh.Holds k c → s.recipe = some r →
      let ready := s.dmi.holder = .handler ∧ d.engaged = true ∧ c.state = .curing ∧ d.engageMark < d.count ∧
        ∀ m, c.failMark = some m → m < d.count
      let left := fun c : Cavity => decide (c.state = .curing ∨ c.state = .stuck)
      let flag := fun c : Cavity => if left c then { c with flags := { c.flags with demouldLate := true } } else c
      let stopped := c.cure.map fun u => { u with accounting := false }
      let put := fun c' : Cavity => { sh with cavities := sh.cavities.set k (some c') }
      let out := fun c' : Cavity => ∀ j v, (put c').Holds j v → v.state = .taken ∨ v.state = .cleared
      let judged := fun (v : Cavity) (p : PartRecord) => ∀ u, v.cure = some u →
        let overcured := r.overCure < u.index
        let blind := r.blindLimit < u.blind
        let f := v.flags
        p.finalIndex = u.index ∧ p.flags = f ∧ p.clear = v.clear ∧ (p.overcured = true ↔ overcured) ∧
          (p.cureUnverified = true ↔ blind) ∧
          p.disposition =
            if u.index < r.cureTarget ∨ v.clear = some .scrap then .scrap
            else if overcured ∨ blind ∨ f.openedEarly ∨ f.demouldLate ∨ f.outtimeExceeded ∨ f.bumpsShort ∨ f.forcedRelease ∨
              v.clear = some .suspect then .suspect
            else .good
      let outcome := fun (c' : Cavity) (t : State) =>
        (¬ out c' → t = { s with shc := { s.shc with press := some (put c') } }) ∧
        (out c' →
          t.shc = { s.shc with press := none } ∧ t.dmi = { s.dmi with demould := none } ∧
          t.zct = { s.zct with emptySince := t.emptyAfter s.zct.emptySince } ∧
          t.ports.ejectOutcome = (if d.heldEject then some .sealed else s.ports.ejectOutcome) ∧
          t.Newest .trace (.shotRecords sh.number (sealSequences (put c').enabled)) ∧
          t.ltr = { s.ltr with
            lots := t.lotsAfter ((heldCavities (put c').enabled).flatMap fun x => (x.2.charge.map fun h => h.plies).getD [])
              none s.ltr.lots } ∧
          (∀ j v h q, (put c').Holds j v → v.charge = some h → v.sequence = some q →
            (∀ i w, i ≠ j → (put c').Holds i w → w.sequence ≠ some q) → s.hrg.slots.get (slotOf q) = .reserved q →
              t.hrg.slots.get (slotOf q) = .sealed q (.part (partRecord s r (put c') j v h)) ∧
                judged v (partRecord s r (put c') j v h)) ∧
          t.hrg.nextSeq = s.hrg.nextSeq ∧
          { t with shc := s.shc, dmi := s.dmi, zct := s.zct, ltr := s.ltr, hrg := s.hrg, ports := s.ports } = s)
      (¬ ready → take = .next (s.replied .handler (.bare .badState) s) ∧
        fail = .next (s.replied .handler (.bare .badState) s)) ∧
      (∀ opening, ready → sh.times.opening = some opening → opening ≤ s.clock → ∃ t,
        take = .next (s.replied .handler ⟨.ok, be 4 (c.part.getD 0) ++ be 4 (s.clock - opening)⟩ t) ∧
        outcome { c with
          state := .taken, cure := stopped, attempts := some (c.attempts.getD 0 + 1), takeTime := some s.clock
          latency := some (s.clock - opening) } t) ∧
      (ready → c.attempts.getD 0 + 1 ≠ r.takeLimit →
        fail = .next (s.replied .handler ⟨.ok, be 1 3 ++ be 1 (c.attempts.getD 0 + 1)⟩ { s with shc := { s.shc with
          press := some (put { c with attempts := some (c.attempts.getD 0 + 1), failMark := some d.count }) } })) ∧
      (ready → c.attempts.getD 0 + 1 = r.takeLimit →
        fail = .next (s.replied .handler ⟨.ok, be 1 5 ++ be 1 r.takeLimit⟩
          (setNotice .press (.stuck sh.number k.val r.takeLimit) { s with shc := { s.shc with
            press := some (put { c with
              state := .stuck, attempts := some r.takeLimit, failMark := some d.count }) } }))) ∧
      (disposition.toNat < 2 → left c = false ∨ s.dmi.holder = .press →
        clr = .next (s.replied .press (.bare .badState) s)) ∧
      (disposition.toNat < 2 → left c = true → s.dmi.holder ≠ .press → ∃ t, clr = .next (s.replied .press (.bare .ok) t) ∧
        outcome { c with
          state := .cleared, cure := stopped, clear := some (if disposition = 0 then .scrap else .suspect)
          flags := { c.flags with stuckCleared := true } } t) ∧
      (d.lateGiven = true ∨ s.clock < d.deadline → exec .demouldLate s = .next s) ∧
      (d.lateGiven = false → d.deadline ≤ s.clock →
        let flagged := (sh.enabled.filter fun x => left x.2).map fun x => x.1.val
        exec .demouldLate s = .next (setNotice .handler (.demouldLate sh.number flagged)
          (setNotice .press (.demouldLate sh.number flagged) { s with
            dmi := { s.dmi with demould := some { d with lateGiven := true } }
            shc := { s.shc with press := some { sh with
              cavities := Table.ofFn fun k => (sh.cavities.get k).map flag } } })))

/-! ### The history ring -/

/-- Outside held fetch, the trace port's own requests: HISTORY SETUP writes the mark, held to 128, and compares at once,
HISTORY_LOW being set at the press and trace ports exactly where the count falls below the mark; SET TIME makes the wall
offset the plant time less the run clock; FETCH finds GONE, NONE or the entries from its start on, each by its slot's state,
and changes nothing, or enters held fetch; COLLECT makes every SEALED slot at or
below its number, held to the newest issued, COLLECTED, and no other slot changes (R154, R155, R158, R162 to R165, R180, R184).
The clauses under log entries 21 and 27 rest on the model's choice. -/
def Obligations.TheRingIsReadAndCollected : Prop :=
  ∀ (s : State) (mark count hold : BitVec 8) (plant start sequence : BitVec 32), s.ports.heldFetch = none →
    let compared := fun (u t : State) =>
      t.hrg = { u.hrg with below := decide (u.available < u.hrg.lowMark) } ∧
      (u.available < u.hrg.lowMark → u.hrg.below = false →
        t.Newest .press (.historyLow u.available u.newest u.oldest) ∧
        t.Newest .trace (.historyLow u.available u.newest u.oldest)) ∧
      (u.hrg.lowMark ≤ u.available ∨ u.hrg.below = true →
        t.ports.press.notices = u.ports.press.notices ∧ t.ports.trace.notices = u.ports.trace.notices) ∧
      t.ports.charge = u.ports.charge ∧ t.ports.handler = u.ports.handler ∧ { t with hrg := u.hrg, ports := u.ports } = u
    (∃ t, exec (.historySetup .trace mark) s = .next t ∧
      compared { s with hrg := { s.hrg with lowMark := min 128 mark.toNat } } t ∧
      t.ports.trace.reply = some ⟨s.ports.trace.turnaround, if mark.toNat ≤ 128 then .ok else .clamped,
        be 1 (min 128 mark.toNat) ++ be 2 s.available⟩) ∧
    (∃ w : Nat, w < 4294967296 ∧ (w : Int) % 4294967296 = ((plant.toNat : Int) - s.clock) % 4294967296 ∧
      exec (.setTime .trace plant) s = .next (s.replied .trace ⟨.ok, be 4 w⟩
        { s with hrg := { s.hrg with wallOffset := w, wallSet := true } })) ∧
    exec (.fetch .trace start count hold) s = .next (s.replied .trace (s.fetchAnswer start.toNat count.toNat)
      (if hold = 0 then s
      else { s with ports := { s.ports with heldFetch := some (s.fetchNext start.toNat count.toNat) } })) ∧
    s.FetchFinds start.toNat count.toNat (s.fetchAnswer start.toNat count.toNat) (s.fetchNext start.toNat count.toNat) ∧
    (∃ t, exec (.collect .trace sequence) s = .next t ∧
      let n := if s.newest < sequence.toNat then s.newest else sequence.toNat
      compared { s with hrg := { s.hrg with slots := t.hrg.slots } } t ∧
      (∀ i, t.hrg.slots.get i = match s.hrg.slots.get i with
        | .sealed q r => if q ≤ n then .collected q r else .sealed q r
        | other => other) ∧
      t.ports.trace.reply = some ⟨s.ports.trace.turnaround, if s.newest < sequence.toNat then .clamped else .ok,
        be 2 (s.hrg.slots.toList.countP fun x => match x with | .sealed q _ => decide (q ≤ n) | _ => false)
          ++ be 2 t.available ++ be 4 t.oldest⟩)

end
end

