-- ==== Sys2Proof/Laws/State.lean ====
section
/-! SUPPORT. What each update of the state leaves alone: one lemma per field and update, each true by unfolding the update
once. Generated in one pattern, so that no later proof unfolds a record update. -/

namespace Sys2Proof.Machine

variable (s : State)

@[simp] theorem State.modifyPort_clock (p : Port) (f : PortState → PortState) : (s.modifyPort p f).clock = s.clock := rfl
@[simp] theorem State.modifyPort_msq (p : Port) (f : PortState → PortState) : (s.modifyPort p f).msq = s.msq := rfl
@[simp] theorem State.modifyPort_zct (p : Port) (f : PortState → PortState) : (s.modifyPort p f).zct = s.zct := rfl
@[simp] theorem State.modifyPort_hbo (p : Port) (f : PortState → PortState) : (s.modifyPort p f).hbo = s.hbo := rfl
@[simp] theorem State.modifyPort_scales (p : Port) (f : PortState → PortState) : (s.modifyPort p f).scales = s.scales := rfl
@[simp] theorem State.modifyPort_ltr (p : Port) (f : PortState → PortState) : (s.modifyPort p f).ltr = s.ltr := rfl
@[simp] theorem State.modifyPort_shc (p : Port) (f : PortState → PortState) : (s.modifyPort p f).shc = s.shc := rfl
@[simp] theorem State.modifyPort_dmi (p : Port) (f : PortState → PortState) : (s.modifyPort p f).dmi = s.dmi := rfl
@[simp] theorem State.modifyPort_hrg (p : Port) (f : PortState → PortState) : (s.modifyPort p f).hrg = s.hrg := rfl
@[simp] theorem State.modifyPort_freeCount (p : Port) (f : PortState → PortState) : (s.modifyPort p f).freeCount = s.freeCount := rfl
@[simp] theorem State.modifyPort_pending (p : Port) (f : PortState → PortState) : (s.modifyPort p f).pending = s.pending := rfl

@[simp] theorem State.modifyScale_clock (k : Fin 2) (f : Scale → Scale) : (s.modifyScale k f).clock = s.clock := rfl
@[simp] theorem State.modifyScale_msq (k : Fin 2) (f : Scale → Scale) : (s.modifyScale k f).msq = s.msq := rfl
@[simp] theorem State.modifyScale_zct (k : Fin 2) (f : Scale → Scale) : (s.modifyScale k f).zct = s.zct := rfl
@[simp] theorem State.modifyScale_hbo (k : Fin 2) (f : Scale → Scale) : (s.modifyScale k f).hbo = s.hbo := rfl
@[simp] theorem State.modifyScale_ltr (k : Fin 2) (f : Scale → Scale) : (s.modifyScale k f).ltr = s.ltr := rfl
@[simp] theorem State.modifyScale_shc (k : Fin 2) (f : Scale → Scale) : (s.modifyScale k f).shc = s.shc := rfl
@[simp] theorem State.modifyScale_dmi (k : Fin 2) (f : Scale → Scale) : (s.modifyScale k f).dmi = s.dmi := rfl
@[simp] theorem State.modifyScale_hrg (k : Fin 2) (f : Scale → Scale) : (s.modifyScale k f).hrg = s.hrg := rfl
@[simp] theorem State.modifyScale_ports (k : Fin 2) (f : Scale → Scale) : (s.modifyScale k f).ports = s.ports := rfl
@[simp] theorem State.modifyScale_freeCount (k : Fin 2) (f : Scale → Scale) : (s.modifyScale k f).freeCount = s.freeCount := rfl
@[simp] theorem State.modifyScale_pending (k : Fin 2) (f : Scale → Scale) : (s.modifyScale k f).pending = s.pending := rfl

@[simp] theorem State.setCurrentLot_clock (k : Fin 2) (lot : Option Nat) : (s.setCurrentLot k lot).clock = s.clock := rfl
@[simp] theorem State.setCurrentLot_msq (k : Fin 2) (lot : Option Nat) : (s.setCurrentLot k lot).msq = s.msq := rfl
@[simp] theorem State.setCurrentLot_zct (k : Fin 2) (lot : Option Nat) : (s.setCurrentLot k lot).zct = s.zct := rfl
@[simp] theorem State.setCurrentLot_hbo (k : Fin 2) (lot : Option Nat) : (s.setCurrentLot k lot).hbo = s.hbo := rfl
@[simp] theorem State.setCurrentLot_ltr (k : Fin 2) (lot : Option Nat) : (s.setCurrentLot k lot).ltr = s.ltr := rfl
@[simp] theorem State.setCurrentLot_shc (k : Fin 2) (lot : Option Nat) : (s.setCurrentLot k lot).shc = s.shc := rfl
@[simp] theorem State.setCurrentLot_dmi (k : Fin 2) (lot : Option Nat) : (s.setCurrentLot k lot).dmi = s.dmi := rfl
@[simp] theorem State.setCurrentLot_hrg (k : Fin 2) (lot : Option Nat) : (s.setCurrentLot k lot).hrg = s.hrg := rfl
@[simp] theorem State.setCurrentLot_ports (k : Fin 2) (lot : Option Nat) : (s.setCurrentLot k lot).ports = s.ports := rfl
@[simp] theorem State.setCurrentLot_freeCount (k : Fin 2) (lot : Option Nat) : (s.setCurrentLot k lot).freeCount = s.freeCount := rfl
@[simp] theorem State.setCurrentLot_pending (k : Fin 2) (lot : Option Nat) : (s.setCurrentLot k lot).pending = s.pending := rfl

@[simp] theorem State.modifyAssembling_clock (f : Shot → Shot) : (s.modifyAssembling f).clock = s.clock := rfl
@[simp] theorem State.modifyAssembling_msq (f : Shot → Shot) : (s.modifyAssembling f).msq = s.msq := rfl
@[simp] theorem State.modifyAssembling_zct (f : Shot → Shot) : (s.modifyAssembling f).zct = s.zct := rfl
@[simp] theorem State.modifyAssembling_hbo (f : Shot → Shot) : (s.modifyAssembling f).hbo = s.hbo := rfl
@[simp] theorem State.modifyAssembling_scales (f : Shot → Shot) : (s.modifyAssembling f).scales = s.scales := rfl
@[simp] theorem State.modifyAssembling_ltr (f : Shot → Shot) : (s.modifyAssembling f).ltr = s.ltr := rfl
@[simp] theorem State.modifyAssembling_dmi (f : Shot → Shot) : (s.modifyAssembling f).dmi = s.dmi := rfl
@[simp] theorem State.modifyAssembling_hrg (f : Shot → Shot) : (s.modifyAssembling f).hrg = s.hrg := rfl
@[simp] theorem State.modifyAssembling_ports (f : Shot → Shot) : (s.modifyAssembling f).ports = s.ports := rfl
@[simp] theorem State.modifyAssembling_freeCount (f : Shot → Shot) : (s.modifyAssembling f).freeCount = s.freeCount := rfl
@[simp] theorem State.modifyAssembling_pending (f : Shot → Shot) : (s.modifyAssembling f).pending = s.pending := rfl

@[simp] theorem State.modifyPress_clock (f : Shot → Shot) : (s.modifyPress f).clock = s.clock := rfl
@[simp] theorem State.modifyPress_msq (f : Shot → Shot) : (s.modifyPress f).msq = s.msq := rfl
@[simp] theorem State.modifyPress_zct (f : Shot → Shot) : (s.modifyPress f).zct = s.zct := rfl
@[simp] theorem State.modifyPress_hbo (f : Shot → Shot) : (s.modifyPress f).hbo = s.hbo := rfl
@[simp] theorem State.modifyPress_scales (f : Shot → Shot) : (s.modifyPress f).scales = s.scales := rfl
@[simp] theorem State.modifyPress_ltr (f : Shot → Shot) : (s.modifyPress f).ltr = s.ltr := rfl
@[simp] theorem State.modifyPress_dmi (f : Shot → Shot) : (s.modifyPress f).dmi = s.dmi := rfl
@[simp] theorem State.modifyPress_hrg (f : Shot → Shot) : (s.modifyPress f).hrg = s.hrg := rfl
@[simp] theorem State.modifyPress_ports (f : Shot → Shot) : (s.modifyPress f).ports = s.ports := rfl
@[simp] theorem State.modifyPress_freeCount (f : Shot → Shot) : (s.modifyPress f).freeCount = s.freeCount := rfl
@[simp] theorem State.modifyPress_pending (f : Shot → Shot) : (s.modifyPress f).pending = s.pending := rfl

@[simp] theorem State.setPress_clock (sh : Shot) : (s.setPress sh).clock = s.clock := rfl
@[simp] theorem State.setPress_msq (sh : Shot) : (s.setPress sh).msq = s.msq := rfl
@[simp] theorem State.setPress_zct (sh : Shot) : (s.setPress sh).zct = s.zct := rfl
@[simp] theorem State.setPress_hbo (sh : Shot) : (s.setPress sh).hbo = s.hbo := rfl
@[simp] theorem State.setPress_scales (sh : Shot) : (s.setPress sh).scales = s.scales := rfl
@[simp] theorem State.setPress_ltr (sh : Shot) : (s.setPress sh).ltr = s.ltr := rfl
@[simp] theorem State.setPress_dmi (sh : Shot) : (s.setPress sh).dmi = s.dmi := rfl
@[simp] theorem State.setPress_hrg (sh : Shot) : (s.setPress sh).hrg = s.hrg := rfl
@[simp] theorem State.setPress_ports (sh : Shot) : (s.setPress sh).ports = s.ports := rfl
@[simp] theorem State.setPress_freeCount (sh : Shot) : (s.setPress sh).freeCount = s.freeCount := rfl
@[simp] theorem State.setPress_pending (sh : Shot) : (s.setPress sh).pending = s.pending := rfl

@[simp] theorem State.setRecipe_clock (i : Fin 8) (r : Recipe) : (s.setRecipe i r).clock = s.clock := rfl
@[simp] theorem State.setRecipe_msq (i : Fin 8) (r : Recipe) : (s.setRecipe i r).msq = s.msq := rfl
@[simp] theorem State.setRecipe_zct (i : Fin 8) (r : Recipe) : (s.setRecipe i r).zct = s.zct := rfl
@[simp] theorem State.setRecipe_hbo (i : Fin 8) (r : Recipe) : (s.setRecipe i r).hbo = s.hbo := rfl
@[simp] theorem State.setRecipe_scales (i : Fin 8) (r : Recipe) : (s.setRecipe i r).scales = s.scales := rfl
@[simp] theorem State.setRecipe_ltr (i : Fin 8) (r : Recipe) : (s.setRecipe i r).ltr = s.ltr := rfl
@[simp] theorem State.setRecipe_dmi (i : Fin 8) (r : Recipe) : (s.setRecipe i r).dmi = s.dmi := rfl
@[simp] theorem State.setRecipe_hrg (i : Fin 8) (r : Recipe) : (s.setRecipe i r).hrg = s.hrg := rfl
@[simp] theorem State.setRecipe_ports (i : Fin 8) (r : Recipe) : (s.setRecipe i r).ports = s.ports := rfl
@[simp] theorem State.setRecipe_freeCount (i : Fin 8) (r : Recipe) : (s.setRecipe i r).freeCount = s.freeCount := rfl
@[simp] theorem State.setRecipe_pending (i : Fin 8) (r : Recipe) : (s.setRecipe i r).pending = s.pending := rfl

@[simp] theorem State.modifyLot_clock (id : Nat) (f : Lot → Lot) : (s.modifyLot id f).clock = s.clock := rfl
@[simp] theorem State.modifyLot_msq (id : Nat) (f : Lot → Lot) : (s.modifyLot id f).msq = s.msq := rfl
@[simp] theorem State.modifyLot_zct (id : Nat) (f : Lot → Lot) : (s.modifyLot id f).zct = s.zct := rfl
@[simp] theorem State.modifyLot_hbo (id : Nat) (f : Lot → Lot) : (s.modifyLot id f).hbo = s.hbo := rfl
@[simp] theorem State.modifyLot_scales (id : Nat) (f : Lot → Lot) : (s.modifyLot id f).scales = s.scales := rfl
@[simp] theorem State.modifyLot_shc (id : Nat) (f : Lot → Lot) : (s.modifyLot id f).shc = s.shc := rfl
@[simp] theorem State.modifyLot_dmi (id : Nat) (f : Lot → Lot) : (s.modifyLot id f).dmi = s.dmi := rfl
@[simp] theorem State.modifyLot_hrg (id : Nat) (f : Lot → Lot) : (s.modifyLot id f).hrg = s.hrg := rfl
@[simp] theorem State.modifyLot_ports (id : Nat) (f : Lot → Lot) : (s.modifyLot id f).ports = s.ports := rfl
@[simp] theorem State.modifyLot_freeCount (id : Nat) (f : Lot → Lot) : (s.modifyLot id f).freeCount = s.freeCount := rfl
@[simp] theorem State.modifyLot_pending (id : Nat) (f : Lot → Lot) : (s.modifyLot id f).pending = s.pending := rfl

@[simp] theorem State.withLots_clock (lots : List Lot) : (s.withLots lots).clock = s.clock := rfl
@[simp] theorem State.withLots_msq (lots : List Lot) : (s.withLots lots).msq = s.msq := rfl
@[simp] theorem State.withLots_zct (lots : List Lot) : (s.withLots lots).zct = s.zct := rfl
@[simp] theorem State.withLots_hbo (lots : List Lot) : (s.withLots lots).hbo = s.hbo := rfl
@[simp] theorem State.withLots_scales (lots : List Lot) : (s.withLots lots).scales = s.scales := rfl
@[simp] theorem State.withLots_shc (lots : List Lot) : (s.withLots lots).shc = s.shc := rfl
@[simp] theorem State.withLots_dmi (lots : List Lot) : (s.withLots lots).dmi = s.dmi := rfl
@[simp] theorem State.withLots_hrg (lots : List Lot) : (s.withLots lots).hrg = s.hrg := rfl
@[simp] theorem State.withLots_ports (lots : List Lot) : (s.withLots lots).ports = s.ports := rfl
@[simp] theorem State.withLots_freeCount (lots : List Lot) : (s.withLots lots).freeCount = s.freeCount := rfl
@[simp] theorem State.withLots_pending (lots : List Lot) : (s.withLots lots).pending = s.pending := rfl

@[simp] theorem State.modifyRack_clock (id : Nat) (f : RackRecord → RackRecord) : (s.modifyRack id f).clock = s.clock := rfl
@[simp] theorem State.modifyRack_msq (id : Nat) (f : RackRecord → RackRecord) : (s.modifyRack id f).msq = s.msq := rfl
@[simp] theorem State.modifyRack_zct (id : Nat) (f : RackRecord → RackRecord) : (s.modifyRack id f).zct = s.zct := rfl
@[simp] theorem State.modifyRack_hbo (id : Nat) (f : RackRecord → RackRecord) : (s.modifyRack id f).hbo = s.hbo := rfl
@[simp] theorem State.modifyRack_scales (id : Nat) (f : RackRecord → RackRecord) : (s.modifyRack id f).scales = s.scales := rfl
@[simp] theorem State.modifyRack_shc (id : Nat) (f : RackRecord → RackRecord) : (s.modifyRack id f).shc = s.shc := rfl
@[simp] theorem State.modifyRack_dmi (id : Nat) (f : RackRecord → RackRecord) : (s.modifyRack id f).dmi = s.dmi := rfl
@[simp] theorem State.modifyRack_hrg (id : Nat) (f : RackRecord → RackRecord) : (s.modifyRack id f).hrg = s.hrg := rfl
@[simp] theorem State.modifyRack_ports (id : Nat) (f : RackRecord → RackRecord) : (s.modifyRack id f).ports = s.ports := rfl
@[simp] theorem State.modifyRack_freeCount (id : Nat) (f : RackRecord → RackRecord) : (s.modifyRack id f).freeCount = s.freeCount := rfl
@[simp] theorem State.modifyRack_pending (id : Nat) (f : RackRecord → RackRecord) : (s.modifyRack id f).pending = s.pending := rfl

@[simp] theorem State.leaveRack_clock (id : Nat) : (s.leaveRack id).clock = s.clock := rfl
@[simp] theorem State.leaveRack_msq (id : Nat) : (s.leaveRack id).msq = s.msq := rfl
@[simp] theorem State.leaveRack_zct (id : Nat) : (s.leaveRack id).zct = s.zct := rfl
@[simp] theorem State.leaveRack_hbo (id : Nat) : (s.leaveRack id).hbo = s.hbo := rfl
@[simp] theorem State.leaveRack_scales (id : Nat) : (s.leaveRack id).scales = s.scales := rfl
@[simp] theorem State.leaveRack_shc (id : Nat) : (s.leaveRack id).shc = s.shc := rfl
@[simp] theorem State.leaveRack_dmi (id : Nat) : (s.leaveRack id).dmi = s.dmi := rfl
@[simp] theorem State.leaveRack_hrg (id : Nat) : (s.leaveRack id).hrg = s.hrg := rfl
@[simp] theorem State.leaveRack_ports (id : Nat) : (s.leaveRack id).ports = s.ports := rfl
@[simp] theorem State.leaveRack_freeCount (id : Nat) : (s.leaveRack id).freeCount = s.freeCount := rfl
@[simp] theorem State.leaveRack_pending (id : Nat) : (s.leaveRack id).pending = s.pending := rfl

@[simp] theorem State.modifyZone_clock (z : Fin 12) (f : Zone → Zone) : (s.modifyZone z f).clock = s.clock := rfl
@[simp] theorem State.modifyZone_msq (z : Fin 12) (f : Zone → Zone) : (s.modifyZone z f).msq = s.msq := rfl
@[simp] theorem State.modifyZone_hbo (z : Fin 12) (f : Zone → Zone) : (s.modifyZone z f).hbo = s.hbo := rfl
@[simp] theorem State.modifyZone_scales (z : Fin 12) (f : Zone → Zone) : (s.modifyZone z f).scales = s.scales := rfl
@[simp] theorem State.modifyZone_ltr (z : Fin 12) (f : Zone → Zone) : (s.modifyZone z f).ltr = s.ltr := rfl
@[simp] theorem State.modifyZone_shc (z : Fin 12) (f : Zone → Zone) : (s.modifyZone z f).shc = s.shc := rfl
@[simp] theorem State.modifyZone_dmi (z : Fin 12) (f : Zone → Zone) : (s.modifyZone z f).dmi = s.dmi := rfl
@[simp] theorem State.modifyZone_hrg (z : Fin 12) (f : Zone → Zone) : (s.modifyZone z f).hrg = s.hrg := rfl
@[simp] theorem State.modifyZone_ports (z : Fin 12) (f : Zone → Zone) : (s.modifyZone z f).ports = s.ports := rfl
@[simp] theorem State.modifyZone_freeCount (z : Fin 12) (f : Zone → Zone) : (s.modifyZone z f).freeCount = s.freeCount := rfl
@[simp] theorem State.modifyZone_pending (z : Fin 12) (f : Zone → Zone) : (s.modifyZone z f).pending = s.pending := rfl

@[simp] theorem State.modifyTc_clock (c : Fin 12) (f : TcChannel → TcChannel) : (s.modifyTc c f).clock = s.clock := rfl
@[simp] theorem State.modifyTc_zct (c : Fin 12) (f : TcChannel → TcChannel) : (s.modifyTc c f).zct = s.zct := rfl
@[simp] theorem State.modifyTc_hbo (c : Fin 12) (f : TcChannel → TcChannel) : (s.modifyTc c f).hbo = s.hbo := rfl
@[simp] theorem State.modifyTc_scales (c : Fin 12) (f : TcChannel → TcChannel) : (s.modifyTc c f).scales = s.scales := rfl
@[simp] theorem State.modifyTc_ltr (c : Fin 12) (f : TcChannel → TcChannel) : (s.modifyTc c f).ltr = s.ltr := rfl
@[simp] theorem State.modifyTc_shc (c : Fin 12) (f : TcChannel → TcChannel) : (s.modifyTc c f).shc = s.shc := rfl
@[simp] theorem State.modifyTc_dmi (c : Fin 12) (f : TcChannel → TcChannel) : (s.modifyTc c f).dmi = s.dmi := rfl
@[simp] theorem State.modifyTc_hrg (c : Fin 12) (f : TcChannel → TcChannel) : (s.modifyTc c f).hrg = s.hrg := rfl
@[simp] theorem State.modifyTc_ports (c : Fin 12) (f : TcChannel → TcChannel) : (s.modifyTc c f).ports = s.ports := rfl
@[simp] theorem State.modifyTc_freeCount (c : Fin 12) (f : TcChannel → TcChannel) : (s.modifyTc c f).freeCount = s.freeCount := rfl
@[simp] theorem State.modifyTc_pending (c : Fin 12) (f : TcChannel → TcChannel) : (s.modifyTc c f).pending = s.pending := rfl

@[simp] theorem State.modifyLc_clock (c : Fin 2) (f : LcChannel → LcChannel) : (s.modifyLc c f).clock = s.clock := rfl
@[simp] theorem State.modifyLc_zct (c : Fin 2) (f : LcChannel → LcChannel) : (s.modifyLc c f).zct = s.zct := rfl
@[simp] theorem State.modifyLc_hbo (c : Fin 2) (f : LcChannel → LcChannel) : (s.modifyLc c f).hbo = s.hbo := rfl
@[simp] theorem State.modifyLc_scales (c : Fin 2) (f : LcChannel → LcChannel) : (s.modifyLc c f).scales = s.scales := rfl
@[simp] theorem State.modifyLc_ltr (c : Fin 2) (f : LcChannel → LcChannel) : (s.modifyLc c f).ltr = s.ltr := rfl
@[simp] theorem State.modifyLc_shc (c : Fin 2) (f : LcChannel → LcChannel) : (s.modifyLc c f).shc = s.shc := rfl
@[simp] theorem State.modifyLc_dmi (c : Fin 2) (f : LcChannel → LcChannel) : (s.modifyLc c f).dmi = s.dmi := rfl
@[simp] theorem State.modifyLc_hrg (c : Fin 2) (f : LcChannel → LcChannel) : (s.modifyLc c f).hrg = s.hrg := rfl
@[simp] theorem State.modifyLc_ports (c : Fin 2) (f : LcChannel → LcChannel) : (s.modifyLc c f).ports = s.ports := rfl
@[simp] theorem State.modifyLc_freeCount (c : Fin 2) (f : LcChannel → LcChannel) : (s.modifyLc c f).freeCount = s.freeCount := rfl
@[simp] theorem State.modifyLc_pending (c : Fin 2) (f : LcChannel → LcChannel) : (s.modifyLc c f).pending = s.pending := rfl

@[simp] theorem State.setDemould_clock (d : Demould) : (s.setDemould d).clock = s.clock := rfl
@[simp] theorem State.setDemould_msq (d : Demould) : (s.setDemould d).msq = s.msq := rfl
@[simp] theorem State.setDemould_zct (d : Demould) : (s.setDemould d).zct = s.zct := rfl
@[simp] theorem State.setDemould_hbo (d : Demould) : (s.setDemould d).hbo = s.hbo := rfl
@[simp] theorem State.setDemould_scales (d : Demould) : (s.setDemould d).scales = s.scales := rfl
@[simp] theorem State.setDemould_ltr (d : Demould) : (s.setDemould d).ltr = s.ltr := rfl
@[simp] theorem State.setDemould_shc (d : Demould) : (s.setDemould d).shc = s.shc := rfl
@[simp] theorem State.setDemould_hrg (d : Demould) : (s.setDemould d).hrg = s.hrg := rfl
@[simp] theorem State.setDemould_ports (d : Demould) : (s.setDemould d).ports = s.ports := rfl
@[simp] theorem State.setDemould_freeCount (d : Demould) : (s.setDemould d).freeCount = s.freeCount := rfl
@[simp] theorem State.setDemould_pending (d : Demould) : (s.setDemould d).pending = s.pending := rfl

@[simp] theorem State.withPending_clock (q : List Instr) : (s.withPending q).clock = s.clock := rfl
@[simp] theorem State.withPending_msq (q : List Instr) : (s.withPending q).msq = s.msq := rfl
@[simp] theorem State.withPending_zct (q : List Instr) : (s.withPending q).zct = s.zct := rfl
@[simp] theorem State.withPending_hbo (q : List Instr) : (s.withPending q).hbo = s.hbo := rfl
@[simp] theorem State.withPending_scales (q : List Instr) : (s.withPending q).scales = s.scales := rfl
@[simp] theorem State.withPending_ltr (q : List Instr) : (s.withPending q).ltr = s.ltr := rfl
@[simp] theorem State.withPending_shc (q : List Instr) : (s.withPending q).shc = s.shc := rfl
@[simp] theorem State.withPending_dmi (q : List Instr) : (s.withPending q).dmi = s.dmi := rfl
@[simp] theorem State.withPending_hrg (q : List Instr) : (s.withPending q).hrg = s.hrg := rfl
@[simp] theorem State.withPending_ports (q : List Instr) : (s.withPending q).ports = s.ports := rfl
@[simp] theorem State.withPending_freeCount (q : List Instr) : (s.withPending q).freeCount = s.freeCount := rfl

@[simp] theorem setNotice_clock (p : Port) (b : NoticeBody) : (setNotice p b s).clock = s.clock := rfl
@[simp] theorem setNotice_msq (p : Port) (b : NoticeBody) : (setNotice p b s).msq = s.msq := rfl
@[simp] theorem setNotice_zct (p : Port) (b : NoticeBody) : (setNotice p b s).zct = s.zct := rfl
@[simp] theorem setNotice_hbo (p : Port) (b : NoticeBody) : (setNotice p b s).hbo = s.hbo := rfl
@[simp] theorem setNotice_scales (p : Port) (b : NoticeBody) : (setNotice p b s).scales = s.scales := rfl
@[simp] theorem setNotice_ltr (p : Port) (b : NoticeBody) : (setNotice p b s).ltr = s.ltr := rfl
@[simp] theorem setNotice_shc (p : Port) (b : NoticeBody) : (setNotice p b s).shc = s.shc := rfl
@[simp] theorem setNotice_dmi (p : Port) (b : NoticeBody) : (setNotice p b s).dmi = s.dmi := rfl
@[simp] theorem setNotice_hrg (p : Port) (b : NoticeBody) : (setNotice p b s).hrg = s.hrg := rfl
@[simp] theorem setNotice_freeCount (p : Port) (b : NoticeBody) : (setNotice p b s).freeCount = s.freeCount := rfl
@[simp] theorem setNotice_pending (p : Port) (b : NoticeBody) : (setNotice p b s).pending = s.pending := rfl

@[simp] theorem answer_clock (p : Port) (t : Nat) (a : Answer) : (answer p t a s).clock = s.clock := rfl
@[simp] theorem answer_msq (p : Port) (t : Nat) (a : Answer) : (answer p t a s).msq = s.msq := rfl
@[simp] theorem answer_zct (p : Port) (t : Nat) (a : Answer) : (answer p t a s).zct = s.zct := rfl
@[simp] theorem answer_hbo (p : Port) (t : Nat) (a : Answer) : (answer p t a s).hbo = s.hbo := rfl
@[simp] theorem answer_scales (p : Port) (t : Nat) (a : Answer) : (answer p t a s).scales = s.scales := rfl
@[simp] theorem answer_ltr (p : Port) (t : Nat) (a : Answer) : (answer p t a s).ltr = s.ltr := rfl
@[simp] theorem answer_shc (p : Port) (t : Nat) (a : Answer) : (answer p t a s).shc = s.shc := rfl
@[simp] theorem answer_dmi (p : Port) (t : Nat) (a : Answer) : (answer p t a s).dmi = s.dmi := rfl
@[simp] theorem answer_hrg (p : Port) (t : Nat) (a : Answer) : (answer p t a s).hrg = s.hrg := rfl
@[simp] theorem answer_freeCount (p : Port) (t : Nat) (a : Answer) : (answer p t a s).freeCount = s.freeCount := rfl
@[simp] theorem answer_pending (p : Port) (t : Nat) (a : Answer) : (answer p t a s).pending = s.pending := rfl

@[simp] theorem handlerLetsGo_clock : (handlerLetsGo s).clock = s.clock := rfl
@[simp] theorem handlerLetsGo_msq : (handlerLetsGo s).msq = s.msq := rfl
@[simp] theorem handlerLetsGo_zct : (handlerLetsGo s).zct = s.zct := rfl
@[simp] theorem handlerLetsGo_hbo : (handlerLetsGo s).hbo = s.hbo := rfl
@[simp] theorem handlerLetsGo_scales : (handlerLetsGo s).scales = s.scales := rfl
@[simp] theorem handlerLetsGo_ltr : (handlerLetsGo s).ltr = s.ltr := rfl
@[simp] theorem handlerLetsGo_shc : (handlerLetsGo s).shc = s.shc := rfl
@[simp] theorem handlerLetsGo_hrg : (handlerLetsGo s).hrg = s.hrg := rfl
@[simp] theorem handlerLetsGo_ports : (handlerLetsGo s).ports = s.ports := rfl
@[simp] theorem handlerLetsGo_freeCount : (handlerLetsGo s).freeCount = s.freeCount := rfl
@[simp] theorem handlerLetsGo_pending : (handlerLetsGo s).pending = s.pending := rfl

@[simp] theorem deriveZone_clock (z : Fin 12) : (deriveZone z s).clock = s.clock := rfl
@[simp] theorem deriveZone_msq (z : Fin 12) : (deriveZone z s).msq = s.msq := rfl
@[simp] theorem deriveZone_hbo (z : Fin 12) : (deriveZone z s).hbo = s.hbo := rfl
@[simp] theorem deriveZone_scales (z : Fin 12) : (deriveZone z s).scales = s.scales := rfl
@[simp] theorem deriveZone_ltr (z : Fin 12) : (deriveZone z s).ltr = s.ltr := rfl
@[simp] theorem deriveZone_shc (z : Fin 12) : (deriveZone z s).shc = s.shc := rfl
@[simp] theorem deriveZone_dmi (z : Fin 12) : (deriveZone z s).dmi = s.dmi := rfl
@[simp] theorem deriveZone_hrg (z : Fin 12) : (deriveZone z s).hrg = s.hrg := rfl
@[simp] theorem deriveZone_ports (z : Fin 12) : (deriveZone z s).ports = s.ports := rfl
@[simp] theorem deriveZone_freeCount (z : Fin 12) : (deriveZone z s).freeCount = s.freeCount := rfl
@[simp] theorem deriveZone_pending (z : Fin 12) : (deriveZone z s).pending = s.pending := rfl

@[simp] theorem deriveAll_clock : (deriveAll s).clock = s.clock := rfl
@[simp] theorem deriveAll_msq : (deriveAll s).msq = s.msq := rfl
@[simp] theorem deriveAll_hbo : (deriveAll s).hbo = s.hbo := rfl
@[simp] theorem deriveAll_scales : (deriveAll s).scales = s.scales := rfl
@[simp] theorem deriveAll_ltr : (deriveAll s).ltr = s.ltr := rfl
@[simp] theorem deriveAll_shc : (deriveAll s).shc = s.shc := rfl
@[simp] theorem deriveAll_dmi : (deriveAll s).dmi = s.dmi := rfl
@[simp] theorem deriveAll_hrg : (deriveAll s).hrg = s.hrg := rfl
@[simp] theorem deriveAll_ports : (deriveAll s).ports = s.ports := rfl
@[simp] theorem deriveAll_freeCount : (deriveAll s).freeCount = s.freeCount := rfl
@[simp] theorem deriveAll_pending : (deriveAll s).pending = s.pending := rfl

@[simp] theorem enterStandby_clock : (enterStandby s).clock = s.clock := rfl
@[simp] theorem enterStandby_msq : (enterStandby s).msq = s.msq := rfl
@[simp] theorem enterStandby_hbo : (enterStandby s).hbo = s.hbo := rfl
@[simp] theorem enterStandby_scales : (enterStandby s).scales = s.scales := rfl
@[simp] theorem enterStandby_ltr : (enterStandby s).ltr = s.ltr := rfl
@[simp] theorem enterStandby_shc : (enterStandby s).shc = s.shc := rfl
@[simp] theorem enterStandby_dmi : (enterStandby s).dmi = s.dmi := rfl
@[simp] theorem enterStandby_hrg : (enterStandby s).hrg = s.hrg := rfl
@[simp] theorem enterStandby_freeCount : (enterStandby s).freeCount = s.freeCount := rfl
@[simp] theorem enterStandby_pending : (enterStandby s).pending = s.pending := rfl

@[simp] theorem enterProduction_clock (e : Option Nat) : (enterProduction e s).clock = s.clock := rfl
@[simp] theorem enterProduction_msq (e : Option Nat) : (enterProduction e s).msq = s.msq := rfl
@[simp] theorem enterProduction_hbo (e : Option Nat) : (enterProduction e s).hbo = s.hbo := rfl
@[simp] theorem enterProduction_scales (e : Option Nat) : (enterProduction e s).scales = s.scales := rfl
@[simp] theorem enterProduction_ltr (e : Option Nat) : (enterProduction e s).ltr = s.ltr := rfl
@[simp] theorem enterProduction_shc (e : Option Nat) : (enterProduction e s).shc = s.shc := rfl
@[simp] theorem enterProduction_dmi (e : Option Nat) : (enterProduction e s).dmi = s.dmi := rfl
@[simp] theorem enterProduction_hrg (e : Option Nat) : (enterProduction e s).hrg = s.hrg := rfl
@[simp] theorem enterProduction_freeCount (e : Option Nat) : (enterProduction e s).freeCount = s.freeCount := rfl
@[simp] theorem enterProduction_pending (e : Option Nat) : (enterProduction e s).pending = s.pending := rfl

@[simp] theorem issue_clock (c : Nat → Slot) : (issue c s).clock = s.clock := rfl
@[simp] theorem issue_msq (c : Nat → Slot) : (issue c s).msq = s.msq := rfl
@[simp] theorem issue_zct (c : Nat → Slot) : (issue c s).zct = s.zct := rfl
@[simp] theorem issue_hbo (c : Nat → Slot) : (issue c s).hbo = s.hbo := rfl
@[simp] theorem issue_scales (c : Nat → Slot) : (issue c s).scales = s.scales := rfl
@[simp] theorem issue_ltr (c : Nat → Slot) : (issue c s).ltr = s.ltr := rfl
@[simp] theorem issue_shc (c : Nat → Slot) : (issue c s).shc = s.shc := rfl
@[simp] theorem issue_dmi (c : Nat → Slot) : (issue c s).dmi = s.dmi := rfl
@[simp] theorem issue_ports (c : Nat → Slot) : (issue c s).ports = s.ports := rfl
@[simp] theorem issue_freeCount (c : Nat → Slot) : (issue c s).freeCount = s.freeCount := rfl
@[simp] theorem issue_pending (c : Nat → Slot) : (issue c s).pending = s.pending := rfl

@[simp] theorem raiseRef_clock (id : Nat) : (raiseRef id s).clock = s.clock := rfl
@[simp] theorem raiseRef_msq (id : Nat) : (raiseRef id s).msq = s.msq := rfl
@[simp] theorem raiseRef_zct (id : Nat) : (raiseRef id s).zct = s.zct := rfl
@[simp] theorem raiseRef_hbo (id : Nat) : (raiseRef id s).hbo = s.hbo := rfl
@[simp] theorem raiseRef_scales (id : Nat) : (raiseRef id s).scales = s.scales := rfl
@[simp] theorem raiseRef_shc (id : Nat) : (raiseRef id s).shc = s.shc := rfl
@[simp] theorem raiseRef_dmi (id : Nat) : (raiseRef id s).dmi = s.dmi := rfl
@[simp] theorem raiseRef_hrg (id : Nat) : (raiseRef id s).hrg = s.hrg := rfl
@[simp] theorem raiseRef_ports (id : Nat) : (raiseRef id s).ports = s.ports := rfl
@[simp] theorem raiseRef_freeCount (id : Nat) : (raiseRef id s).freeCount = s.freeCount := rfl
@[simp] theorem raiseRef_pending (id : Nat) : (raiseRef id s).pending = s.pending := rfl

@[simp] theorem releaseLot_clock (id : Nat) : (releaseLot id s).clock = s.clock := rfl
@[simp] theorem releaseLot_msq (id : Nat) : (releaseLot id s).msq = s.msq := rfl
@[simp] theorem releaseLot_zct (id : Nat) : (releaseLot id s).zct = s.zct := rfl
@[simp] theorem releaseLot_hbo (id : Nat) : (releaseLot id s).hbo = s.hbo := rfl
@[simp] theorem releaseLot_scales (id : Nat) : (releaseLot id s).scales = s.scales := rfl
@[simp] theorem releaseLot_shc (id : Nat) : (releaseLot id s).shc = s.shc := rfl
@[simp] theorem releaseLot_dmi (id : Nat) : (releaseLot id s).dmi = s.dmi := rfl
@[simp] theorem releaseLot_hrg (id : Nat) : (releaseLot id s).hrg = s.hrg := rfl
@[simp] theorem releaseLot_ports (id : Nat) : (releaseLot id s).ports = s.ports := rfl
@[simp] theorem releaseLot_freeCount (id : Nat) : (releaseLot id s).freeCount = s.freeCount := rfl
@[simp] theorem releaseLot_pending (id : Nat) : (releaseLot id s).pending = s.pending := rfl

@[simp] theorem lowerRef_clock (id : Nat) : (lowerRef id s).clock = s.clock := rfl
@[simp] theorem lowerRef_msq (id : Nat) : (lowerRef id s).msq = s.msq := rfl
@[simp] theorem lowerRef_zct (id : Nat) : (lowerRef id s).zct = s.zct := rfl
@[simp] theorem lowerRef_hbo (id : Nat) : (lowerRef id s).hbo = s.hbo := rfl
@[simp] theorem lowerRef_scales (id : Nat) : (lowerRef id s).scales = s.scales := rfl
@[simp] theorem lowerRef_shc (id : Nat) : (lowerRef id s).shc = s.shc := rfl
@[simp] theorem lowerRef_dmi (id : Nat) : (lowerRef id s).dmi = s.dmi := rfl
@[simp] theorem lowerRef_hrg (id : Nat) : (lowerRef id s).hrg = s.hrg := rfl
@[simp] theorem lowerRef_ports (id : Nat) : (lowerRef id s).ports = s.ports := rfl
@[simp] theorem lowerRef_freeCount (id : Nat) : (lowerRef id s).freeCount = s.freeCount := rfl
@[simp] theorem lowerRef_pending (id : Nat) : (lowerRef id s).pending = s.pending := rfl

@[simp] theorem settleTare_clock (k : Fin 2) : (settleTare k s).clock = s.clock := rfl
@[simp] theorem settleTare_msq (k : Fin 2) : (settleTare k s).msq = s.msq := rfl
@[simp] theorem settleTare_zct (k : Fin 2) : (settleTare k s).zct = s.zct := rfl
@[simp] theorem settleTare_hbo (k : Fin 2) : (settleTare k s).hbo = s.hbo := rfl
@[simp] theorem settleTare_ltr (k : Fin 2) : (settleTare k s).ltr = s.ltr := rfl
@[simp] theorem settleTare_shc (k : Fin 2) : (settleTare k s).shc = s.shc := rfl
@[simp] theorem settleTare_dmi (k : Fin 2) : (settleTare k s).dmi = s.dmi := rfl
@[simp] theorem settleTare_hrg (k : Fin 2) : (settleTare k s).hrg = s.hrg := rfl
@[simp] theorem settleTare_freeCount (k : Fin 2) : (settleTare k s).freeCount = s.freeCount := rfl
@[simp] theorem settleTare_pending (k : Fin 2) : (settleTare k s).pending = s.pending := rfl

@[simp] theorem loadBoundary_clock : (loadBoundary s).clock = s.clock := rfl
@[simp] theorem loadBoundary_msq : (loadBoundary s).msq = s.msq := rfl
@[simp] theorem loadBoundary_scales : (loadBoundary s).scales = s.scales := rfl
@[simp] theorem loadBoundary_ltr : (loadBoundary s).ltr = s.ltr := rfl
@[simp] theorem loadBoundary_shc : (loadBoundary s).shc = s.shc := rfl
@[simp] theorem loadBoundary_dmi : (loadBoundary s).dmi = s.dmi := rfl
@[simp] theorem loadBoundary_hrg : (loadBoundary s).hrg = s.hrg := rfl
@[simp] theorem loadBoundary_ports : (loadBoundary s).ports = s.ports := rfl
@[simp] theorem loadBoundary_freeCount : (loadBoundary s).freeCount = s.freeCount := rfl
@[simp] theorem loadBoundary_pending : (loadBoundary s).pending = s.pending := rfl

@[simp] theorem advanceFrame_clock (p : Nat) : (advanceFrame p s).clock = s.clock := rfl
@[simp] theorem advanceFrame_msq (p : Nat) : (advanceFrame p s).msq = s.msq := rfl
@[simp] theorem advanceFrame_zct (p : Nat) : (advanceFrame p s).zct = s.zct := rfl
@[simp] theorem advanceFrame_scales (p : Nat) : (advanceFrame p s).scales = s.scales := rfl
@[simp] theorem advanceFrame_ltr (p : Nat) : (advanceFrame p s).ltr = s.ltr := rfl
@[simp] theorem advanceFrame_shc (p : Nat) : (advanceFrame p s).shc = s.shc := rfl
@[simp] theorem advanceFrame_dmi (p : Nat) : (advanceFrame p s).dmi = s.dmi := rfl
@[simp] theorem advanceFrame_hrg (p : Nat) : (advanceFrame p s).hrg = s.hrg := rfl
@[simp] theorem advanceFrame_ports (p : Nat) : (advanceFrame p s).ports = s.ports := rfl
@[simp] theorem advanceFrame_freeCount (p : Nat) : (advanceFrame p s).freeCount = s.freeCount := rfl
@[simp] theorem advanceFrame_pending (p : Nat) : (advanceFrame p s).pending = s.pending := rfl

@[simp] theorem throttleNotices_clock : (throttleNotices s).clock = s.clock := rfl
@[simp] theorem throttleNotices_msq : (throttleNotices s).msq = s.msq := rfl
@[simp] theorem throttleNotices_zct : (throttleNotices s).zct = s.zct := rfl
@[simp] theorem throttleNotices_hbo : (throttleNotices s).hbo = s.hbo := rfl
@[simp] theorem throttleNotices_scales : (throttleNotices s).scales = s.scales := rfl
@[simp] theorem throttleNotices_ltr : (throttleNotices s).ltr = s.ltr := rfl
@[simp] theorem throttleNotices_shc : (throttleNotices s).shc = s.shc := rfl
@[simp] theorem throttleNotices_dmi : (throttleNotices s).dmi = s.dmi := rfl
@[simp] theorem throttleNotices_hrg : (throttleNotices s).hrg = s.hrg := rfl
@[simp] theorem throttleNotices_freeCount : (throttleNotices s).freeCount = s.freeCount := rfl
@[simp] theorem throttleNotices_pending : (throttleNotices s).pending = s.pending := rfl

@[simp] theorem migrate_clock (k : Fin 2) (lot : Nat) : (migrate k lot s).clock = s.clock := rfl
@[simp] theorem migrate_msq (k : Fin 2) (lot : Nat) : (migrate k lot s).msq = s.msq := rfl
@[simp] theorem migrate_zct (k : Fin 2) (lot : Nat) : (migrate k lot s).zct = s.zct := rfl
@[simp] theorem migrate_hbo (k : Fin 2) (lot : Nat) : (migrate k lot s).hbo = s.hbo := rfl
@[simp] theorem migrate_ltr (k : Fin 2) (lot : Nat) : (migrate k lot s).ltr = s.ltr := rfl
@[simp] theorem migrate_shc (k : Fin 2) (lot : Nat) : (migrate k lot s).shc = s.shc := rfl
@[simp] theorem migrate_dmi (k : Fin 2) (lot : Nat) : (migrate k lot s).dmi = s.dmi := rfl
@[simp] theorem migrate_hrg (k : Fin 2) (lot : Nat) : (migrate k lot s).hrg = s.hrg := rfl
@[simp] theorem migrate_freeCount (k : Fin 2) (lot : Nat) : (migrate k lot s).freeCount = s.freeCount := rfl
@[simp] theorem migrate_pending (k : Fin 2) (lot : Nat) : (migrate k lot s).pending = s.pending := rfl

@[simp] theorem ageLot_clock (lot : Nat) : (ageLot lot s).clock = s.clock := rfl
@[simp] theorem ageLot_msq (lot : Nat) : (ageLot lot s).msq = s.msq := rfl
@[simp] theorem ageLot_zct (lot : Nat) : (ageLot lot s).zct = s.zct := rfl
@[simp] theorem ageLot_hbo (lot : Nat) : (ageLot lot s).hbo = s.hbo := rfl
@[simp] theorem ageLot_scales (lot : Nat) : (ageLot lot s).scales = s.scales := rfl
@[simp] theorem ageLot_shc (lot : Nat) : (ageLot lot s).shc = s.shc := rfl
@[simp] theorem ageLot_dmi (lot : Nat) : (ageLot lot s).dmi = s.dmi := rfl
@[simp] theorem ageLot_hrg (lot : Nat) : (ageLot lot s).hrg = s.hrg := rfl
@[simp] theorem ageLot_ports (lot : Nat) : (ageLot lot s).ports = s.ports := rfl
@[simp] theorem ageLot_freeCount (lot : Nat) : (ageLot lot s).freeCount = s.freeCount := rfl
@[simp] theorem ageLot_pending (lot : Nat) : (ageLot lot s).pending = s.pending := rfl

@[simp] theorem ageLots_clock : (ageLots s).clock = s.clock := rfl
@[simp] theorem ageLots_msq : (ageLots s).msq = s.msq := rfl
@[simp] theorem ageLots_zct : (ageLots s).zct = s.zct := rfl
@[simp] theorem ageLots_hbo : (ageLots s).hbo = s.hbo := rfl
@[simp] theorem ageLots_scales : (ageLots s).scales = s.scales := rfl
@[simp] theorem ageLots_shc : (ageLots s).shc = s.shc := rfl
@[simp] theorem ageLots_dmi : (ageLots s).dmi = s.dmi := rfl
@[simp] theorem ageLots_hrg : (ageLots s).hrg = s.hrg := rfl
@[simp] theorem ageLots_ports : (ageLots s).ports = s.ports := rfl
@[simp] theorem ageLots_freeCount : (ageLots s).freeCount = s.freeCount := rfl
@[simp] theorem ageLots_pending : (ageLots s).pending = s.pending := rfl

@[simp] theorem setMount_clock (m : Option (Fin 8)) : (setMount m s).clock = s.clock := rfl
@[simp] theorem setMount_msq (m : Option (Fin 8)) : (setMount m s).msq = s.msq := rfl
@[simp] theorem setMount_hbo (m : Option (Fin 8)) : (setMount m s).hbo = s.hbo := rfl
@[simp] theorem setMount_scales (m : Option (Fin 8)) : (setMount m s).scales = s.scales := rfl
@[simp] theorem setMount_ltr (m : Option (Fin 8)) : (setMount m s).ltr = s.ltr := rfl
@[simp] theorem setMount_dmi (m : Option (Fin 8)) : (setMount m s).dmi = s.dmi := rfl
@[simp] theorem setMount_hrg (m : Option (Fin 8)) : (setMount m s).hrg = s.hrg := rfl
@[simp] theorem setMount_ports (m : Option (Fin 8)) : (setMount m s).ports = s.ports := rfl
@[simp] theorem setMount_freeCount (m : Option (Fin 8)) : (setMount m s).freeCount = s.freeCount := rfl
@[simp] theorem setMount_pending (m : Option (Fin 8)) : (setMount m s).pending = s.pending := rfl

@[simp] theorem holdClaim_clock : (holdClaim s).clock = s.clock := rfl
@[simp] theorem holdClaim_msq : (holdClaim s).msq = s.msq := rfl
@[simp] theorem holdClaim_zct : (holdClaim s).zct = s.zct := rfl
@[simp] theorem holdClaim_hbo : (holdClaim s).hbo = s.hbo := rfl
@[simp] theorem holdClaim_scales : (holdClaim s).scales = s.scales := rfl
@[simp] theorem holdClaim_ltr : (holdClaim s).ltr = s.ltr := rfl
@[simp] theorem holdClaim_shc : (holdClaim s).shc = s.shc := rfl
@[simp] theorem holdClaim_hrg : (holdClaim s).hrg = s.hrg := rfl
@[simp] theorem holdClaim_ports : (holdClaim s).ports = s.ports := rfl
@[simp] theorem holdClaim_freeCount : (holdClaim s).freeCount = s.freeCount := rfl
@[simp] theorem holdClaim_pending : (holdClaim s).pending = s.pending := rfl

@[simp] theorem holdClose_clock : (holdClose s).clock = s.clock := rfl
@[simp] theorem holdClose_msq : (holdClose s).msq = s.msq := rfl
@[simp] theorem holdClose_zct : (holdClose s).zct = s.zct := rfl
@[simp] theorem holdClose_hbo : (holdClose s).hbo = s.hbo := rfl
@[simp] theorem holdClose_scales : (holdClose s).scales = s.scales := rfl
@[simp] theorem holdClose_ltr : (holdClose s).ltr = s.ltr := rfl
@[simp] theorem holdClose_dmi : (holdClose s).dmi = s.dmi := rfl
@[simp] theorem holdClose_hrg : (holdClose s).hrg = s.hrg := rfl
@[simp] theorem holdClose_ports : (holdClose s).ports = s.ports := rfl
@[simp] theorem holdClose_freeCount : (holdClose s).freeCount = s.freeCount := rfl
@[simp] theorem holdClose_pending : (holdClose s).pending = s.pending := rfl

end Sys2Proof.Machine
end

