-- ==== Sys2Proof/Laws/Table.lean ====
section
/-! SUPPORT. Reading a table after each of its updates. -/

namespace Sys2Proof.Table

variable {α β : Type} {n : Nat}

theorem ext_get {t u : Table α n} (h : ∀ i, t.get i = u.get i) : t = u := by
  obtain ⟨l, hl⟩ := t
  obtain ⟨m, hm⟩ := u
  have : l = m := by
    apply List.ext_getElem (by omega)
    intro i h1 h2
    exact h ⟨i, by omega⟩
  subst this
  rfl

@[simp] theorem get_set_self (t : Table α n) (i : Fin n) (a : α) : (t.set i a).get i = a := by
  simp [get, set]

theorem get_set_ne (t : Table α n) {i j : Fin n} (a : α) (h : j ≠ i) : (t.set i a).get j = t.get j := by
  have : i.val ≠ j.val := fun e => h (Fin.ext e.symm)
  simp [get, set, this]

theorem get_set (t : Table α n) (i j : Fin n) (a : α) : (t.set i a).get j = if j = i then a else t.get j := by
  by_cases h : j = i
  · subst h; simp
  · simp [h, get_set_ne t a h]

@[simp] theorem get_ofFn (f : Fin n → α) (i : Fin n) : (ofFn f).get i = f i := by
  simp [get, ofFn]

@[simp] theorem get_mapIdx (t : Table α n) (f : Fin n → α → β) (i : Fin n) : (t.mapIdx f).get i = f i (t.get i) := by
  simp [mapIdx]

@[simp] theorem get_replicate (a : α) (i : Fin n) : (replicate n a).get i = a := by
  simp [get, replicate]

@[simp] theorem get_modify_self (t : Table α n) (i : Fin n) (f : α → α) : (t.modify i f).get i = f (t.get i) := by
  simp [modify]

theorem get_modify_ne (t : Table α n) {i j : Fin n} (f : α → α) (h : j ≠ i) : (t.modify i f).get j = t.get j :=
  get_set_ne t _ h

theorem get_modify (t : Table α n) (i j : Fin n) (f : α → α) :
    (t.modify i f).get j = if j = i then f (t.get i) else t.get j :=
  get_set t i j _

end Sys2Proof.Table
end

