-- ==== Sys2Proof/Laws/Frames.lean ====
section
/-! SUPPORT. What each shared operation leaves alone, whichever of its cases applies: one lemma per field it never writes. -/

namespace Sys2Proof.Machine

variable (s : State)

/-- A fold of steps that each keep a figure keeps it. -/
theorem foldl_keeps {α β γ : Type} (g : β → γ) (f : β → α → β) (xs : List α) (b : β) (h : ∀ b a, g (f b a) = g b) :
    g (xs.foldl f b) = g b := by
  induction xs generalizing b with
  | nil => rfl
  | cons a as ih => simp [ih, h]

@[simp] theorem fitWord_clock (n : Nat) : (fitWord n s).2.clock = s.clock := by unfold fitWord; split <;> rfl
@[simp] theorem fitWord_msq (n : Nat) : (fitWord n s).2.msq = s.msq := by unfold fitWord; split <;> rfl
@[simp] theorem fitWord_zct (n : Nat) : (fitWord n s).2.zct = s.zct := by unfold fitWord; split <;> rfl
@[simp] theorem fitWord_hbo (n : Nat) : (fitWord n s).2.hbo = s.hbo := by unfold fitWord; split <;> rfl
@[simp] theorem fitWord_scales (n : Nat) : (fitWord n s).2.scales = s.scales := by unfold fitWord; split <;> rfl
@[simp] theorem fitWord_ltr (n : Nat) : (fitWord n s).2.ltr = s.ltr := by unfold fitWord; split <;> rfl
@[simp] theorem fitWord_shc (n : Nat) : (fitWord n s).2.shc = s.shc := by unfold fitWord; split <;> rfl
@[simp] theorem fitWord_dmi (n : Nat) : (fitWord n s).2.dmi = s.dmi := by unfold fitWord; split <;> rfl
@[simp] theorem fitWord_hrg (n : Nat) : (fitWord n s).2.hrg = s.hrg := by unfold fitWord; split <;> rfl
@[simp] theorem fitWord_ports (n : Nat) : (fitWord n s).2.ports = s.ports := by unfold fitWord; split <;> rfl
@[simp] theorem fitWord_pending (n : Nat) : (fitWord n s).2.pending = s.pending := by unfold fitWord; split <;> rfl

@[simp] theorem lowerRefs_clock (ps : List Ply) : (lowerRefs ps s).clock = s.clock := by
  unfold lowerRefs; induction ps generalizing s with
  | nil => rfl
  | cons p ps ih => simp [ih]
@[simp] theorem lowerRefs_msq (ps : List Ply) : (lowerRefs ps s).msq = s.msq := by
  unfold lowerRefs; induction ps generalizing s with
  | nil => rfl
  | cons p ps ih => simp [ih]
@[simp] theorem lowerRefs_zct (ps : List Ply) : (lowerRefs ps s).zct = s.zct := by
  unfold lowerRefs; induction ps generalizing s with
  | nil => rfl
  | cons p ps ih => simp [ih]
@[simp] theorem lowerRefs_hbo (ps : List Ply) : (lowerRefs ps s).hbo = s.hbo := by
  unfold lowerRefs; induction ps generalizing s with
  | nil => rfl
  | cons p ps ih => simp [ih]
@[simp] theorem lowerRefs_scales (ps : List Ply) : (lowerRefs ps s).scales = s.scales := by
  unfold lowerRefs; induction ps generalizing s with
  | nil => rfl
  | cons p ps ih => simp [ih]
@[simp] theorem lowerRefs_shc (ps : List Ply) : (lowerRefs ps s).shc = s.shc := by
  unfold lowerRefs; induction ps generalizing s with
  | nil => rfl
  | cons p ps ih => simp [ih]
@[simp] theorem lowerRefs_dmi (ps : List Ply) : (lowerRefs ps s).dmi = s.dmi := by
  unfold lowerRefs; induction ps generalizing s with
  | nil => rfl
  | cons p ps ih => simp [ih]
@[simp] theorem lowerRefs_hrg (ps : List Ply) : (lowerRefs ps s).hrg = s.hrg := by
  unfold lowerRefs; induction ps generalizing s with
  | nil => rfl
  | cons p ps ih => simp [ih]
@[simp] theorem lowerRefs_ports (ps : List Ply) : (lowerRefs ps s).ports = s.ports := by
  unfold lowerRefs; induction ps generalizing s with
  | nil => rfl
  | cons p ps ih => simp [ih]
@[simp] theorem lowerRefs_freeCount (ps : List Ply) : (lowerRefs ps s).freeCount = s.freeCount := by
  unfold lowerRefs; induction ps generalizing s with
  | nil => rfl
  | cons p ps ih => simp [ih]
@[simp] theorem lowerRefs_pending (ps : List Ply) : (lowerRefs ps s).pending = s.pending := by
  unfold lowerRefs; induction ps generalizing s with
  | nil => rfl
  | cons p ps ih => simp [ih]

@[simp] theorem compareLow_clock : (compareLow s).clock = s.clock := by
  unfold compareLow; repeat' (first | rfl | split | simp)
@[simp] theorem compareLow_msq : (compareLow s).msq = s.msq := by
  unfold compareLow; repeat' (first | rfl | split | simp)
@[simp] theorem compareLow_zct : (compareLow s).zct = s.zct := by
  unfold compareLow; repeat' (first | rfl | split | simp)
@[simp] theorem compareLow_hbo : (compareLow s).hbo = s.hbo := by
  unfold compareLow; repeat' (first | rfl | split | simp)
@[simp] theorem compareLow_scales : (compareLow s).scales = s.scales := by
  unfold compareLow; repeat' (first | rfl | split | simp)
@[simp] theorem compareLow_ltr : (compareLow s).ltr = s.ltr := by
  unfold compareLow; repeat' (first | rfl | split | simp)
@[simp] theorem compareLow_shc : (compareLow s).shc = s.shc := by
  unfold compareLow; repeat' (first | rfl | split | simp)
@[simp] theorem compareLow_dmi : (compareLow s).dmi = s.dmi := by
  unfold compareLow; repeat' (first | rfl | split | simp)
@[simp] theorem compareLow_freeCount : (compareLow s).freeCount = s.freeCount := by
  unfold compareLow; repeat' (first | rfl | split | simp)
@[simp] theorem compareLow_pending : (compareLow s).pending = s.pending := by
  unfold compareLow; repeat' (first | rfl | split | simp)

@[simp] theorem reserve_clock : (reserve s).clock = s.clock := by
  unfold reserve; repeat' (first | rfl | split | simp)
@[simp] theorem reserve_msq : (reserve s).msq = s.msq := by
  unfold reserve; repeat' (first | rfl | split | simp)
@[simp] theorem reserve_zct : (reserve s).zct = s.zct := by
  unfold reserve; repeat' (first | rfl | split | simp)
@[simp] theorem reserve_hbo : (reserve s).hbo = s.hbo := by
  unfold reserve; repeat' (first | rfl | split | simp)
@[simp] theorem reserve_scales : (reserve s).scales = s.scales := by
  unfold reserve; repeat' (first | rfl | split | simp)
@[simp] theorem reserve_ltr : (reserve s).ltr = s.ltr := by
  unfold reserve; repeat' (first | rfl | split | simp)
@[simp] theorem reserve_shc : (reserve s).shc = s.shc := by
  unfold reserve; repeat' (first | rfl | split | simp)
@[simp] theorem reserve_dmi : (reserve s).dmi = s.dmi := by
  unfold reserve; repeat' (first | rfl | split | simp)
@[simp] theorem reserve_freeCount : (reserve s).freeCount = s.freeCount := by
  unfold reserve; repeat' (first | rfl | split | simp)
@[simp] theorem reserve_pending : (reserve s).pending = s.pending := by
  unfold reserve; repeat' (first | rfl | split | simp)

@[simp] theorem replaceReserved_clock (q : Nat) (c : Slot) : (replaceReserved q c s).clock = s.clock := by
  unfold replaceReserved; repeat' (first | rfl | split)
@[simp] theorem replaceReserved_msq (q : Nat) (c : Slot) : (replaceReserved q c s).msq = s.msq := by
  unfold replaceReserved; repeat' (first | rfl | split)
@[simp] theorem replaceReserved_zct (q : Nat) (c : Slot) : (replaceReserved q c s).zct = s.zct := by
  unfold replaceReserved; repeat' (first | rfl | split)
@[simp] theorem replaceReserved_hbo (q : Nat) (c : Slot) : (replaceReserved q c s).hbo = s.hbo := by
  unfold replaceReserved; repeat' (first | rfl | split)
@[simp] theorem replaceReserved_scales (q : Nat) (c : Slot) : (replaceReserved q c s).scales = s.scales := by
  unfold replaceReserved; repeat' (first | rfl | split)
@[simp] theorem replaceReserved_ltr (q : Nat) (c : Slot) : (replaceReserved q c s).ltr = s.ltr := by
  unfold replaceReserved; repeat' (first | rfl | split)
@[simp] theorem replaceReserved_shc (q : Nat) (c : Slot) : (replaceReserved q c s).shc = s.shc := by
  unfold replaceReserved; repeat' (first | rfl | split)
@[simp] theorem replaceReserved_dmi (q : Nat) (c : Slot) : (replaceReserved q c s).dmi = s.dmi := by
  unfold replaceReserved; repeat' (first | rfl | split)
@[simp] theorem replaceReserved_ports (q : Nat) (c : Slot) : (replaceReserved q c s).ports = s.ports := by
  unfold replaceReserved; repeat' (first | rfl | split)
@[simp] theorem replaceReserved_freeCount (q : Nat) (c : Slot) : (replaceReserved q c s).freeCount = s.freeCount := by
  unfold replaceReserved; repeat' (first | rfl | split)
@[simp] theorem replaceReserved_pending (q : Nat) (c : Slot) : (replaceReserved q c s).pending = s.pending := by
  unfold replaceReserved; repeat' (first | rfl | split)

@[simp] theorem voidSlot_clock (q : Nat) : (voidSlot q s).clock = s.clock := by
  unfold voidSlot; repeat' (first | rfl | split | simp)
@[simp] theorem voidSlot_msq (q : Nat) : (voidSlot q s).msq = s.msq := by
  unfold voidSlot; repeat' (first | rfl | split | simp)
@[simp] theorem voidSlot_zct (q : Nat) : (voidSlot q s).zct = s.zct := by
  unfold voidSlot; repeat' (first | rfl | split | simp)
@[simp] theorem voidSlot_hbo (q : Nat) : (voidSlot q s).hbo = s.hbo := by
  unfold voidSlot; repeat' (first | rfl | split | simp)
@[simp] theorem voidSlot_scales (q : Nat) : (voidSlot q s).scales = s.scales := by
  unfold voidSlot; repeat' (first | rfl | split | simp)
@[simp] theorem voidSlot_ltr (q : Nat) : (voidSlot q s).ltr = s.ltr := by
  unfold voidSlot; repeat' (first | rfl | split | simp)
@[simp] theorem voidSlot_shc (q : Nat) : (voidSlot q s).shc = s.shc := by
  unfold voidSlot; repeat' (first | rfl | split | simp)
@[simp] theorem voidSlot_dmi (q : Nat) : (voidSlot q s).dmi = s.dmi := by
  unfold voidSlot; repeat' (first | rfl | split | simp)
@[simp] theorem voidSlot_freeCount (q : Nat) : (voidSlot q s).freeCount = s.freeCount := by
  unfold voidSlot; repeat' (first | rfl | split | simp)
@[simp] theorem voidSlot_pending (q : Nat) : (voidSlot q s).pending = s.pending := by
  unfold voidSlot; repeat' (first | rfl | split | simp)

@[simp] theorem sealReserved_clock (q : Nat) (r : Record) : (sealReserved q r s).clock = s.clock := by
  unfold sealReserved; repeat' (first | rfl | split | simp)
@[simp] theorem sealReserved_msq (q : Nat) (r : Record) : (sealReserved q r s).msq = s.msq := by
  unfold sealReserved; repeat' (first | rfl | split | simp)
@[simp] theorem sealReserved_zct (q : Nat) (r : Record) : (sealReserved q r s).zct = s.zct := by
  unfold sealReserved; repeat' (first | rfl | split | simp)
@[simp] theorem sealReserved_hbo (q : Nat) (r : Record) : (sealReserved q r s).hbo = s.hbo := by
  unfold sealReserved; repeat' (first | rfl | split | simp)
@[simp] theorem sealReserved_scales (q : Nat) (r : Record) : (sealReserved q r s).scales = s.scales := by
  unfold sealReserved; repeat' (first | rfl | split | simp)
@[simp] theorem sealReserved_ltr (q : Nat) (r : Record) : (sealReserved q r s).ltr = s.ltr := by
  unfold sealReserved; repeat' (first | rfl | split | simp)
@[simp] theorem sealReserved_shc (q : Nat) (r : Record) : (sealReserved q r s).shc = s.shc := by
  unfold sealReserved; repeat' (first | rfl | split | simp)
@[simp] theorem sealReserved_dmi (q : Nat) (r : Record) : (sealReserved q r s).dmi = s.dmi := by
  unfold sealReserved; repeat' (first | rfl | split | simp)
@[simp] theorem sealReserved_ports (q : Nat) (r : Record) : (sealReserved q r s).ports = s.ports := by
  unfold sealReserved; repeat' (first | rfl | split | simp)
@[simp] theorem sealReserved_freeCount (q : Nat) (r : Record) : (sealReserved q r s).freeCount = s.freeCount := by
  unfold sealReserved; repeat' (first | rfl | split | simp)
@[simp] theorem sealReserved_pending (q : Nat) (r : Record) : (sealReserved q r s).pending = s.pending := by
  unfold sealReserved; repeat' (first | rfl | split | simp)

@[simp] theorem readyScraps_clock (qs : List Nat) : (readyScraps qs s).clock = s.clock := by
  unfold readyScraps; repeat' (first | rfl | split)
@[simp] theorem readyScraps_msq (qs : List Nat) : (readyScraps qs s).msq = s.msq := by
  unfold readyScraps; repeat' (first | rfl | split)
@[simp] theorem readyScraps_zct (qs : List Nat) : (readyScraps qs s).zct = s.zct := by
  unfold readyScraps; repeat' (first | rfl | split)
@[simp] theorem readyScraps_hbo (qs : List Nat) : (readyScraps qs s).hbo = s.hbo := by
  unfold readyScraps; repeat' (first | rfl | split)
@[simp] theorem readyScraps_scales (qs : List Nat) : (readyScraps qs s).scales = s.scales := by
  unfold readyScraps; repeat' (first | rfl | split)
@[simp] theorem readyScraps_ltr (qs : List Nat) : (readyScraps qs s).ltr = s.ltr := by
  unfold readyScraps; repeat' (first | rfl | split)
@[simp] theorem readyScraps_shc (qs : List Nat) : (readyScraps qs s).shc = s.shc := by
  unfold readyScraps; repeat' (first | rfl | split)
@[simp] theorem readyScraps_dmi (qs : List Nat) : (readyScraps qs s).dmi = s.dmi := by
  unfold readyScraps; repeat' (first | rfl | split)
@[simp] theorem readyScraps_hrg (qs : List Nat) : (readyScraps qs s).hrg = s.hrg := by
  unfold readyScraps; repeat' (first | rfl | split)
@[simp] theorem readyScraps_freeCount (qs : List Nat) : (readyScraps qs s).freeCount = s.freeCount := by
  unfold readyScraps; repeat' (first | rfl | split)
@[simp] theorem readyScraps_pending (qs : List Nat) : (readyScraps qs s).pending = s.pending := by
  unfold readyScraps; repeat' (first | rfl | split)

@[simp] theorem releaseLotOpt_clock (id : Option Nat) : (releaseLot? id s).clock = s.clock := by
  unfold releaseLot?; repeat' (first | rfl | split)
@[simp] theorem releaseLotOpt_msq (id : Option Nat) : (releaseLot? id s).msq = s.msq := by
  unfold releaseLot?; repeat' (first | rfl | split)
@[simp] theorem releaseLotOpt_zct (id : Option Nat) : (releaseLot? id s).zct = s.zct := by
  unfold releaseLot?; repeat' (first | rfl | split)
@[simp] theorem releaseLotOpt_hbo (id : Option Nat) : (releaseLot? id s).hbo = s.hbo := by
  unfold releaseLot?; repeat' (first | rfl | split)
@[simp] theorem releaseLotOpt_scales (id : Option Nat) : (releaseLot? id s).scales = s.scales := by
  unfold releaseLot?; repeat' (first | rfl | split)
@[simp] theorem releaseLotOpt_shc (id : Option Nat) : (releaseLot? id s).shc = s.shc := by
  unfold releaseLot?; repeat' (first | rfl | split)
@[simp] theorem releaseLotOpt_dmi (id : Option Nat) : (releaseLot? id s).dmi = s.dmi := by
  unfold releaseLot?; repeat' (first | rfl | split)
@[simp] theorem releaseLotOpt_hrg (id : Option Nat) : (releaseLot? id s).hrg = s.hrg := by
  unfold releaseLot?; repeat' (first | rfl | split)
@[simp] theorem releaseLotOpt_ports (id : Option Nat) : (releaseLot? id s).ports = s.ports := by
  unfold releaseLot?; repeat' (first | rfl | split)
@[simp] theorem releaseLotOpt_freeCount (id : Option Nat) : (releaseLot? id s).freeCount = s.freeCount := by
  unfold releaseLot?; repeat' (first | rfl | split)
@[simp] theorem releaseLotOpt_pending (id : Option Nat) : (releaseLot? id s).pending = s.pending := by
  unfold releaseLot?; repeat' (first | rfl | split)

@[simp] theorem scrapNow_clock (r : ScrapRecord) : (scrapNow r s).clock = s.clock := by
  unfold scrapNow; repeat' (first | rfl | split | simp)
@[simp] theorem scrapNow_msq (r : ScrapRecord) : (scrapNow r s).msq = s.msq := by
  unfold scrapNow; repeat' (first | rfl | split | simp)
@[simp] theorem scrapNow_zct (r : ScrapRecord) : (scrapNow r s).zct = s.zct := by
  unfold scrapNow; repeat' (first | rfl | split | simp)
@[simp] theorem scrapNow_hbo (r : ScrapRecord) : (scrapNow r s).hbo = s.hbo := by
  unfold scrapNow; repeat' (first | rfl | split | simp)
@[simp] theorem scrapNow_scales (r : ScrapRecord) : (scrapNow r s).scales = s.scales := by
  unfold scrapNow; repeat' (first | rfl | split | simp)
@[simp] theorem scrapNow_shc (r : ScrapRecord) : (scrapNow r s).shc = s.shc := by
  unfold scrapNow; repeat' (first | rfl | split | simp)
@[simp] theorem scrapNow_dmi (r : ScrapRecord) : (scrapNow r s).dmi = s.dmi := by
  unfold scrapNow; repeat' (first | rfl | split | simp)
@[simp] theorem scrapNow_freeCount (r : ScrapRecord) : (scrapNow r s).freeCount = s.freeCount := by
  unfold scrapNow; repeat' (first | rfl | split | simp)
@[simp] theorem scrapNow_pending (r : ScrapRecord) : (scrapNow r s).pending = s.pending := by
  unfold scrapNow; repeat' (first | rfl | split | simp)

@[simp] theorem enterRack_clock (c : Charge) (p : Nat) : (enterRack c p s).clock = s.clock := by
  unfold enterRack; repeat' (first | rfl | split | simp)
@[simp] theorem enterRack_msq (c : Charge) (p : Nat) : (enterRack c p s).msq = s.msq := by
  unfold enterRack; repeat' (first | rfl | split | simp)
@[simp] theorem enterRack_zct (c : Charge) (p : Nat) : (enterRack c p s).zct = s.zct := by
  unfold enterRack; repeat' (first | rfl | split | simp)
@[simp] theorem enterRack_hbo (c : Charge) (p : Nat) : (enterRack c p s).hbo = s.hbo := by
  unfold enterRack; repeat' (first | rfl | split | simp)
@[simp] theorem enterRack_scales (c : Charge) (p : Nat) : (enterRack c p s).scales = s.scales := by
  unfold enterRack; repeat' (first | rfl | split | simp)
@[simp] theorem enterRack_shc (c : Charge) (p : Nat) : (enterRack c p s).shc = s.shc := by
  unfold enterRack; repeat' (first | rfl | split | simp)
@[simp] theorem enterRack_dmi (c : Charge) (p : Nat) : (enterRack c p s).dmi = s.dmi := by
  unfold enterRack; repeat' (first | rfl | split | simp)
@[simp] theorem enterRack_hrg (c : Charge) (p : Nat) : (enterRack c p s).hrg = s.hrg := by
  unfold enterRack; repeat' (first | rfl | split | simp)
@[simp] theorem enterRack_freeCount (c : Charge) (p : Nat) : (enterRack c p s).freeCount = s.freeCount := by
  unfold enterRack; repeat' (first | rfl | split | simp)
@[simp] theorem enterRack_pending (c : Charge) (p : Nat) : (enterRack c p s).pending = s.pending := by
  unfold enterRack; repeat' (first | rfl | split | simp)

@[simp] theorem entryFreed_clock : (entryFreed s).clock = s.clock := by
  unfold entryFreed; repeat' (first | rfl | split)
@[simp] theorem entryFreed_msq : (entryFreed s).msq = s.msq := by
  unfold entryFreed; repeat' (first | rfl | split)
@[simp] theorem entryFreed_hbo : (entryFreed s).hbo = s.hbo := by
  unfold entryFreed; repeat' (first | rfl | split)
@[simp] theorem entryFreed_scales : (entryFreed s).scales = s.scales := by
  unfold entryFreed; repeat' (first | rfl | split)
@[simp] theorem entryFreed_ltr : (entryFreed s).ltr = s.ltr := by
  unfold entryFreed; repeat' (first | rfl | split)
@[simp] theorem entryFreed_shc : (entryFreed s).shc = s.shc := by
  unfold entryFreed; repeat' (first | rfl | split)
@[simp] theorem entryFreed_dmi : (entryFreed s).dmi = s.dmi := by
  unfold entryFreed; repeat' (first | rfl | split)
@[simp] theorem entryFreed_hrg : (entryFreed s).hrg = s.hrg := by
  unfold entryFreed; repeat' (first | rfl | split)
@[simp] theorem entryFreed_ports : (entryFreed s).ports = s.ports := by
  unfold entryFreed; repeat' (first | rfl | split)
@[simp] theorem entryFreed_freeCount : (entryFreed s).freeCount = s.freeCount := by
  unfold entryFreed; repeat' (first | rfl | split)
@[simp] theorem entryFreed_pending : (entryFreed s).pending = s.pending := by
  unfold entryFreed; repeat' (first | rfl | split)

@[simp] theorem grantClose_clock : (grantClose s).clock = s.clock := by
  unfold grantClose; repeat' (first | rfl | split)
@[simp] theorem grantClose_msq : (grantClose s).msq = s.msq := by
  unfold grantClose; repeat' (first | rfl | split)
@[simp] theorem grantClose_zct : (grantClose s).zct = s.zct := by
  unfold grantClose; repeat' (first | rfl | split)
@[simp] theorem grantClose_hbo : (grantClose s).hbo = s.hbo := by
  unfold grantClose; repeat' (first | rfl | split)
@[simp] theorem grantClose_scales : (grantClose s).scales = s.scales := by
  unfold grantClose; repeat' (first | rfl | split)
@[simp] theorem grantClose_ltr : (grantClose s).ltr = s.ltr := by
  unfold grantClose; repeat' (first | rfl | split)
@[simp] theorem grantClose_hrg : (grantClose s).hrg = s.hrg := by
  unfold grantClose; repeat' (first | rfl | split)
@[simp] theorem grantClose_freeCount : (grantClose s).freeCount = s.freeCount := by
  unfold grantClose; repeat' (first | rfl | split)
@[simp] theorem grantClose_pending : (grantClose s).pending = s.pending := by
  unfold grantClose; repeat' (first | rfl | split)

@[simp] theorem endClose_clock (r : CloseOutcome) : (endClose r s).clock = s.clock := by
  unfold endClose; repeat' (first | rfl | split)
@[simp] theorem endClose_msq (r : CloseOutcome) : (endClose r s).msq = s.msq := by
  unfold endClose; repeat' (first | rfl | split)
@[simp] theorem endClose_zct (r : CloseOutcome) : (endClose r s).zct = s.zct := by
  unfold endClose; repeat' (first | rfl | split)
@[simp] theorem endClose_hbo (r : CloseOutcome) : (endClose r s).hbo = s.hbo := by
  unfold endClose; repeat' (first | rfl | split)
@[simp] theorem endClose_scales (r : CloseOutcome) : (endClose r s).scales = s.scales := by
  unfold endClose; repeat' (first | rfl | split)
@[simp] theorem endClose_ltr (r : CloseOutcome) : (endClose r s).ltr = s.ltr := by
  unfold endClose; repeat' (first | rfl | split)
@[simp] theorem endClose_dmi (r : CloseOutcome) : (endClose r s).dmi = s.dmi := by
  unfold endClose; repeat' (first | rfl | split)
@[simp] theorem endClose_hrg (r : CloseOutcome) : (endClose r s).hrg = s.hrg := by
  unfold endClose; repeat' (first | rfl | split)
@[simp] theorem endClose_freeCount (r : CloseOutcome) : (endClose r s).freeCount = s.freeCount := by
  unfold endClose; repeat' (first | rfl | split)
@[simp] theorem endClose_pending (r : CloseOutcome) : (endClose r s).pending = s.pending := by
  unfold endClose; repeat' (first | rfl | split)

@[simp] theorem reexamine_clock : (reexamine s).clock = s.clock := by
  unfold reexamine; repeat' (first | rfl | split | simp)
@[simp] theorem reexamine_msq : (reexamine s).msq = s.msq := by
  unfold reexamine; repeat' (first | rfl | split | simp)
@[simp] theorem reexamine_zct : (reexamine s).zct = s.zct := by
  unfold reexamine; repeat' (first | rfl | split | simp)
@[simp] theorem reexamine_hbo : (reexamine s).hbo = s.hbo := by
  unfold reexamine; repeat' (first | rfl | split | simp)
@[simp] theorem reexamine_scales : (reexamine s).scales = s.scales := by
  unfold reexamine; repeat' (first | rfl | split | simp)
@[simp] theorem reexamine_ltr : (reexamine s).ltr = s.ltr := by
  unfold reexamine; repeat' (first | rfl | split | simp)
@[simp] theorem reexamine_hrg : (reexamine s).hrg = s.hrg := by
  unfold reexamine; repeat' (first | rfl | split | simp)
@[simp] theorem reexamine_freeCount : (reexamine s).freeCount = s.freeCount := by
  unfold reexamine; repeat' (first | rfl | split | simp)
@[simp] theorem reexamine_pending : (reexamine s).pending = s.pending := by
  unfold reexamine; repeat' (first | rfl | split | simp)

@[simp] theorem returnStaged_clock (k : Fin 4) (r : RackRecord) (q : Nat) : (returnStaged k r q s).clock = s.clock := by
  unfold returnStaged; repeat' (first | rfl | split | simp)
@[simp] theorem returnStaged_msq (k : Fin 4) (r : RackRecord) (q : Nat) : (returnStaged k r q s).msq = s.msq := by
  unfold returnStaged; repeat' (first | rfl | split | simp)
@[simp] theorem returnStaged_zct (k : Fin 4) (r : RackRecord) (q : Nat) : (returnStaged k r q s).zct = s.zct := by
  unfold returnStaged; repeat' (first | rfl | split | simp)
@[simp] theorem returnStaged_hbo (k : Fin 4) (r : RackRecord) (q : Nat) : (returnStaged k r q s).hbo = s.hbo := by
  unfold returnStaged; repeat' (first | rfl | split | simp)
@[simp] theorem returnStaged_scales (k : Fin 4) (r : RackRecord) (q : Nat) : (returnStaged k r q s).scales = s.scales := by
  unfold returnStaged; repeat' (first | rfl | split | simp)
@[simp] theorem returnStaged_dmi (k : Fin 4) (r : RackRecord) (q : Nat) : (returnStaged k r q s).dmi = s.dmi := by
  unfold returnStaged; repeat' (first | rfl | split | simp)
@[simp] theorem returnStaged_freeCount (k : Fin 4) (r : RackRecord) (q : Nat) : (returnStaged k r q s).freeCount = s.freeCount := by
  unfold returnStaged; repeat' (first | rfl | split | simp)
@[simp] theorem returnStaged_pending (k : Fin 4) (r : RackRecord) (q : Nat) : (returnStaged k r q s).pending = s.pending := by
  unfold returnStaged; repeat' (first | rfl | split | simp)

@[simp] theorem scrapCavity_clock (c : ScrapCause) (n : Nat) (k : Fin 4) (v : Cavity) : (scrapCavity c n k v s).clock = s.clock := by
  unfold scrapCavity; repeat' (first | rfl | split | simp)
@[simp] theorem scrapCavity_msq (c : ScrapCause) (n : Nat) (k : Fin 4) (v : Cavity) : (scrapCavity c n k v s).msq = s.msq := by
  unfold scrapCavity; repeat' (first | rfl | split | simp)
@[simp] theorem scrapCavity_zct (c : ScrapCause) (n : Nat) (k : Fin 4) (v : Cavity) : (scrapCavity c n k v s).zct = s.zct := by
  unfold scrapCavity; repeat' (first | rfl | split | simp)
@[simp] theorem scrapCavity_hbo (c : ScrapCause) (n : Nat) (k : Fin 4) (v : Cavity) : (scrapCavity c n k v s).hbo = s.hbo := by
  unfold scrapCavity; repeat' (first | rfl | split | simp)
@[simp] theorem scrapCavity_scales (c : ScrapCause) (n : Nat) (k : Fin 4) (v : Cavity) : (scrapCavity c n k v s).scales = s.scales := by
  unfold scrapCavity; repeat' (first | rfl | split | simp)
@[simp] theorem scrapCavity_shc (c : ScrapCause) (n : Nat) (k : Fin 4) (v : Cavity) : (scrapCavity c n k v s).shc = s.shc := by
  unfold scrapCavity; repeat' (first | rfl | split | simp)
@[simp] theorem scrapCavity_dmi (c : ScrapCause) (n : Nat) (k : Fin 4) (v : Cavity) : (scrapCavity c n k v s).dmi = s.dmi := by
  unfold scrapCavity; repeat' (first | rfl | split | simp)
@[simp] theorem scrapCavity_ports (c : ScrapCause) (n : Nat) (k : Fin 4) (v : Cavity) : (scrapCavity c n k v s).ports = s.ports := by
  unfold scrapCavity; repeat' (first | rfl | split | simp)
@[simp] theorem scrapCavity_freeCount (c : ScrapCause) (n : Nat) (k : Fin 4) (v : Cavity) : (scrapCavity c n k v s).freeCount = s.freeCount := by
  unfold scrapCavity; repeat' (first | rfl | split | simp)
@[simp] theorem scrapCavity_pending (c : ScrapCause) (n : Nat) (k : Fin 4) (v : Cavity) : (scrapCavity c n k v s).pending = s.pending := by
  unfold scrapCavity; repeat' (first | rfl | split | simp)

@[simp] theorem scrapShot_clock (sh : Shot) : (scrapShot sh s).clock = s.clock := by
  unfold scrapShot
  simp [foldl_keeps (fun t : State => t.clock)]
@[simp] theorem scrapShot_msq (sh : Shot) : (scrapShot sh s).msq = s.msq := by
  unfold scrapShot
  simp [foldl_keeps (fun t : State => t.msq)]
@[simp] theorem scrapShot_zct (sh : Shot) : (scrapShot sh s).zct = s.zct := by
  unfold scrapShot
  simp [foldl_keeps (fun t : State => t.zct)]
@[simp] theorem scrapShot_hbo (sh : Shot) : (scrapShot sh s).hbo = s.hbo := by
  unfold scrapShot
  simp [foldl_keeps (fun t : State => t.hbo)]
@[simp] theorem scrapShot_scales (sh : Shot) : (scrapShot sh s).scales = s.scales := by
  unfold scrapShot
  simp [foldl_keeps (fun t : State => t.scales)]
@[simp] theorem scrapShot_shc (sh : Shot) : (scrapShot sh s).shc = s.shc := by
  unfold scrapShot
  simp [foldl_keeps (fun t : State => t.shc)]
@[simp] theorem scrapShot_dmi (sh : Shot) : (scrapShot sh s).dmi = s.dmi := by
  unfold scrapShot
  simp [foldl_keeps (fun t : State => t.dmi)]
@[simp] theorem scrapShot_freeCount (sh : Shot) : (scrapShot sh s).freeCount = s.freeCount := by
  unfold scrapShot
  simp [foldl_keeps (fun t : State => t.freeCount)]
@[simp] theorem scrapShot_pending (sh : Shot) : (scrapShot sh s).pending = s.pending := by
  unfold scrapShot
  simp [foldl_keeps (fun t : State => t.pending)]

@[simp] theorem returnCavity_clock (k : Fin 4) : (returnCavity k s).clock = s.clock := by
  unfold returnCavity; repeat' (first | rfl | split | simp)
@[simp] theorem returnCavity_msq (k : Fin 4) : (returnCavity k s).msq = s.msq := by
  unfold returnCavity; repeat' (first | rfl | split | simp)
@[simp] theorem returnCavity_zct (k : Fin 4) : (returnCavity k s).zct = s.zct := by
  unfold returnCavity; repeat' (first | rfl | split | simp)
@[simp] theorem returnCavity_hbo (k : Fin 4) : (returnCavity k s).hbo = s.hbo := by
  unfold returnCavity; repeat' (first | rfl | split | simp)
@[simp] theorem returnCavity_scales (k : Fin 4) : (returnCavity k s).scales = s.scales := by
  unfold returnCavity; repeat' (first | rfl | split | simp)
@[simp] theorem returnCavity_dmi (k : Fin 4) : (returnCavity k s).dmi = s.dmi := by
  unfold returnCavity; repeat' (first | rfl | split | simp)
@[simp] theorem returnCavity_freeCount (k : Fin 4) : (returnCavity k s).freeCount = s.freeCount := by
  unfold returnCavity; repeat' (first | rfl | split | simp)
@[simp] theorem returnCavity_pending (k : Fin 4) : (returnCavity k s).pending = s.pending := by
  unfold returnCavity; repeat' (first | rfl | split | simp)

@[simp] theorem abortAssembling_clock (sh : Shot) (r : CloseOutcome) : (abortAssembling sh r s).clock = s.clock := by
  unfold abortAssembling
  simp [foldl_keeps (fun t : State => t.clock)]
@[simp] theorem abortAssembling_msq (sh : Shot) (r : CloseOutcome) : (abortAssembling sh r s).msq = s.msq := by
  unfold abortAssembling
  simp [foldl_keeps (fun t : State => t.msq)]
@[simp] theorem abortAssembling_hbo (sh : Shot) (r : CloseOutcome) : (abortAssembling sh r s).hbo = s.hbo := by
  unfold abortAssembling
  simp [foldl_keeps (fun t : State => t.hbo)]
@[simp] theorem abortAssembling_scales (sh : Shot) (r : CloseOutcome) : (abortAssembling sh r s).scales = s.scales := by
  unfold abortAssembling
  simp [foldl_keeps (fun t : State => t.scales)]
@[simp] theorem abortAssembling_dmi (sh : Shot) (r : CloseOutcome) : (abortAssembling sh r s).dmi = s.dmi := by
  unfold abortAssembling
  simp [foldl_keeps (fun t : State => t.dmi)]
@[simp] theorem abortAssembling_freeCount (sh : Shot) (r : CloseOutcome) : (abortAssembling sh r s).freeCount = s.freeCount := by
  unfold abortAssembling
  simp [foldl_keeps (fun t : State => t.freeCount)]
@[simp] theorem abortAssembling_pending (sh : Shot) (r : CloseOutcome) : (abortAssembling sh r s).pending = s.pending := by
  unfold abortAssembling
  simp [foldl_keeps (fun t : State => t.pending)]

@[simp] theorem abortPress_clock (sh : Shot) : (abortPress sh s).clock = s.clock := by
  unfold abortPress; repeat' (first | rfl | split | simp)
@[simp] theorem abortPress_msq (sh : Shot) : (abortPress sh s).msq = s.msq := by
  unfold abortPress; repeat' (first | rfl | split | simp)
@[simp] theorem abortPress_zct (sh : Shot) : (abortPress sh s).zct = s.zct := by
  unfold abortPress; repeat' (first | rfl | split | simp)
@[simp] theorem abortPress_hbo (sh : Shot) : (abortPress sh s).hbo = s.hbo := by
  unfold abortPress; repeat' (first | rfl | split | simp)
@[simp] theorem abortPress_scales (sh : Shot) : (abortPress sh s).scales = s.scales := by
  unfold abortPress; repeat' (first | rfl | split | simp)
@[simp] theorem abortPress_dmi (sh : Shot) : (abortPress sh s).dmi = s.dmi := by
  unfold abortPress; repeat' (first | rfl | split | simp)
@[simp] theorem abortPress_freeCount (sh : Shot) : (abortPress sh s).freeCount = s.freeCount := by
  unfold abortPress; repeat' (first | rfl | split | simp)
@[simp] theorem abortPress_pending (sh : Shot) : (abortPress sh s).pending = s.pending := by
  unfold abortPress; repeat' (first | rfl | split | simp)

@[simp] theorem releasePress_clock : (releasePress s).clock = s.clock := by
  unfold releasePress; repeat' (first | rfl | split)
@[simp] theorem releasePress_msq : (releasePress s).msq = s.msq := by
  unfold releasePress; repeat' (first | rfl | split)
@[simp] theorem releasePress_zct : (releasePress s).zct = s.zct := by
  unfold releasePress; repeat' (first | rfl | split)
@[simp] theorem releasePress_hbo : (releasePress s).hbo = s.hbo := by
  unfold releasePress; repeat' (first | rfl | split)
@[simp] theorem releasePress_scales : (releasePress s).scales = s.scales := by
  unfold releasePress; repeat' (first | rfl | split)
@[simp] theorem releasePress_ltr : (releasePress s).ltr = s.ltr := by
  unfold releasePress; repeat' (first | rfl | split)
@[simp] theorem releasePress_shc : (releasePress s).shc = s.shc := by
  unfold releasePress; repeat' (first | rfl | split)
@[simp] theorem releasePress_hrg : (releasePress s).hrg = s.hrg := by
  unfold releasePress; repeat' (first | rfl | split)
@[simp] theorem releasePress_freeCount : (releasePress s).freeCount = s.freeCount := by
  unfold releasePress; repeat' (first | rfl | split)
@[simp] theorem releasePress_pending : (releasePress s).pending = s.pending := by
  unfold releasePress; repeat' (first | rfl | split)

@[simp] theorem endEject_clock (o : EjectOutcome) : (endEject o s).clock = s.clock := by
  unfold endEject; repeat' (first | rfl | split)
@[simp] theorem endEject_msq (o : EjectOutcome) : (endEject o s).msq = s.msq := by
  unfold endEject; repeat' (first | rfl | split)
@[simp] theorem endEject_zct (o : EjectOutcome) : (endEject o s).zct = s.zct := by
  unfold endEject; repeat' (first | rfl | split)
@[simp] theorem endEject_hbo (o : EjectOutcome) : (endEject o s).hbo = s.hbo := by
  unfold endEject; repeat' (first | rfl | split)
@[simp] theorem endEject_scales (o : EjectOutcome) : (endEject o s).scales = s.scales := by
  unfold endEject; repeat' (first | rfl | split)
@[simp] theorem endEject_ltr (o : EjectOutcome) : (endEject o s).ltr = s.ltr := by
  unfold endEject; repeat' (first | rfl | split)
@[simp] theorem endEject_shc (o : EjectOutcome) : (endEject o s).shc = s.shc := by
  unfold endEject; repeat' (first | rfl | split)
@[simp] theorem endEject_hrg (o : EjectOutcome) : (endEject o s).hrg = s.hrg := by
  unfold endEject; repeat' (first | rfl | split)
@[simp] theorem endEject_freeCount (o : EjectOutcome) : (endEject o s).freeCount = s.freeCount := by
  unfold endEject; repeat' (first | rfl | split)
@[simp] theorem endEject_pending (o : EjectOutcome) : (endEject o s).pending = s.pending := by
  unfold endEject; repeat' (first | rfl | split)

@[simp] theorem endClaim_clock (o : ClaimOutcome) : (endClaim o s).clock = s.clock := by
  unfold endClaim; repeat' (first | rfl | split)
@[simp] theorem endClaim_msq (o : ClaimOutcome) : (endClaim o s).msq = s.msq := by
  unfold endClaim; repeat' (first | rfl | split)
@[simp] theorem endClaim_zct (o : ClaimOutcome) : (endClaim o s).zct = s.zct := by
  unfold endClaim; repeat' (first | rfl | split)
@[simp] theorem endClaim_hbo (o : ClaimOutcome) : (endClaim o s).hbo = s.hbo := by
  unfold endClaim; repeat' (first | rfl | split)
@[simp] theorem endClaim_scales (o : ClaimOutcome) : (endClaim o s).scales = s.scales := by
  unfold endClaim; repeat' (first | rfl | split)
@[simp] theorem endClaim_ltr (o : ClaimOutcome) : (endClaim o s).ltr = s.ltr := by
  unfold endClaim; repeat' (first | rfl | split)
@[simp] theorem endClaim_shc (o : ClaimOutcome) : (endClaim o s).shc = s.shc := by
  unfold endClaim; repeat' (first | rfl | split)
@[simp] theorem endClaim_hrg (o : ClaimOutcome) : (endClaim o s).hrg = s.hrg := by
  unfold endClaim; repeat' (first | rfl | split)
@[simp] theorem endClaim_freeCount (o : ClaimOutcome) : (endClaim o s).freeCount = s.freeCount := by
  unfold endClaim; repeat' (first | rfl | split)
@[simp] theorem endClaim_pending (o : ClaimOutcome) : (endClaim o s).pending = s.pending := by
  unfold endClaim; repeat' (first | rfl | split)

@[simp] theorem endOpen_clock (o : OpenOutcome) : (endOpen o s).clock = s.clock := by
  unfold endOpen; repeat' (first | rfl | split)
@[simp] theorem endOpen_msq (o : OpenOutcome) : (endOpen o s).msq = s.msq := by
  unfold endOpen; repeat' (first | rfl | split)
@[simp] theorem endOpen_zct (o : OpenOutcome) : (endOpen o s).zct = s.zct := by
  unfold endOpen; repeat' (first | rfl | split)
@[simp] theorem endOpen_hbo (o : OpenOutcome) : (endOpen o s).hbo = s.hbo := by
  unfold endOpen; repeat' (first | rfl | split)
@[simp] theorem endOpen_scales (o : OpenOutcome) : (endOpen o s).scales = s.scales := by
  unfold endOpen; repeat' (first | rfl | split)
@[simp] theorem endOpen_ltr (o : OpenOutcome) : (endOpen o s).ltr = s.ltr := by
  unfold endOpen; repeat' (first | rfl | split)
@[simp] theorem endOpen_dmi (o : OpenOutcome) : (endOpen o s).dmi = s.dmi := by
  unfold endOpen; repeat' (first | rfl | split)
@[simp] theorem endOpen_hrg (o : OpenOutcome) : (endOpen o s).hrg = s.hrg := by
  unfold endOpen; repeat' (first | rfl | split)
@[simp] theorem endOpen_freeCount (o : OpenOutcome) : (endOpen o s).freeCount = s.freeCount := by
  unfold endOpen; repeat' (first | rfl | split)
@[simp] theorem endOpen_pending (o : OpenOutcome) : (endOpen o s).pending = s.pending := by
  unfold endOpen; repeat' (first | rfl | split)

@[simp] theorem sealPart_clock (r : Recipe) (sh : Shot) (k : Fin 4) (c : Cavity) : (sealPart r sh k c s).clock = s.clock := by
  unfold sealPart; repeat' (first | rfl | split | simp)
@[simp] theorem sealPart_msq (r : Recipe) (sh : Shot) (k : Fin 4) (c : Cavity) : (sealPart r sh k c s).msq = s.msq := by
  unfold sealPart; repeat' (first | rfl | split | simp)
@[simp] theorem sealPart_zct (r : Recipe) (sh : Shot) (k : Fin 4) (c : Cavity) : (sealPart r sh k c s).zct = s.zct := by
  unfold sealPart; repeat' (first | rfl | split | simp)
@[simp] theorem sealPart_hbo (r : Recipe) (sh : Shot) (k : Fin 4) (c : Cavity) : (sealPart r sh k c s).hbo = s.hbo := by
  unfold sealPart; repeat' (first | rfl | split | simp)
@[simp] theorem sealPart_scales (r : Recipe) (sh : Shot) (k : Fin 4) (c : Cavity) : (sealPart r sh k c s).scales = s.scales := by
  unfold sealPart; repeat' (first | rfl | split | simp)
@[simp] theorem sealPart_shc (r : Recipe) (sh : Shot) (k : Fin 4) (c : Cavity) : (sealPart r sh k c s).shc = s.shc := by
  unfold sealPart; repeat' (first | rfl | split | simp)
@[simp] theorem sealPart_dmi (r : Recipe) (sh : Shot) (k : Fin 4) (c : Cavity) : (sealPart r sh k c s).dmi = s.dmi := by
  unfold sealPart; repeat' (first | rfl | split | simp)
@[simp] theorem sealPart_ports (r : Recipe) (sh : Shot) (k : Fin 4) (c : Cavity) : (sealPart r sh k c s).ports = s.ports := by
  unfold sealPart; repeat' (first | rfl | split | simp)
@[simp] theorem sealPart_freeCount (r : Recipe) (sh : Shot) (k : Fin 4) (c : Cavity) : (sealPart r sh k c s).freeCount = s.freeCount := by
  unfold sealPart; repeat' (first | rfl | split | simp)
@[simp] theorem sealPart_pending (r : Recipe) (sh : Shot) (k : Fin 4) (c : Cavity) : (sealPart r sh k c s).pending = s.pending := by
  unfold sealPart; repeat' (first | rfl | split | simp)

@[simp] theorem sealShot_clock (r : Recipe) (sh : Shot) : (sealShot r sh s).clock = s.clock := by
  unfold sealShot
  simp [foldl_keeps (fun t : State => t.clock)]
@[simp] theorem sealShot_msq (r : Recipe) (sh : Shot) : (sealShot r sh s).msq = s.msq := by
  unfold sealShot
  simp [foldl_keeps (fun t : State => t.msq)]
@[simp] theorem sealShot_hbo (r : Recipe) (sh : Shot) : (sealShot r sh s).hbo = s.hbo := by
  unfold sealShot
  simp [foldl_keeps (fun t : State => t.hbo)]
@[simp] theorem sealShot_scales (r : Recipe) (sh : Shot) : (sealShot r sh s).scales = s.scales := by
  unfold sealShot
  simp [foldl_keeps (fun t : State => t.scales)]
@[simp] theorem sealShot_freeCount (r : Recipe) (sh : Shot) : (sealShot r sh s).freeCount = s.freeCount := by
  unfold sealShot
  simp [foldl_keeps (fun t : State => t.freeCount)]
@[simp] theorem sealShot_pending (r : Recipe) (sh : Shot) : (sealShot r sh s).pending = s.pending := by
  unfold sealShot
  simp [foldl_keeps (fun t : State => t.pending)]

@[simp] theorem sealIfOut_clock : (sealIfOut s).clock = s.clock := by
  unfold sealIfOut; repeat' (first | rfl | split | simp)
@[simp] theorem sealIfOut_msq : (sealIfOut s).msq = s.msq := by
  unfold sealIfOut; repeat' (first | rfl | split | simp)
@[simp] theorem sealIfOut_hbo : (sealIfOut s).hbo = s.hbo := by
  unfold sealIfOut; repeat' (first | rfl | split | simp)
@[simp] theorem sealIfOut_scales : (sealIfOut s).scales = s.scales := by
  unfold sealIfOut; repeat' (first | rfl | split | simp)
@[simp] theorem sealIfOut_freeCount : (sealIfOut s).freeCount = s.freeCount := by
  unfold sealIfOut; repeat' (first | rfl | split | simp)
@[simp] theorem sealIfOut_pending : (sealIfOut s).pending = s.pending := by
  unfold sealIfOut; repeat' (first | rfl | split | simp)

@[simp] theorem takeCount_clock (n : Nat) : (takeCount n s).clock = s.clock := by
  unfold takeCount; repeat' (first | rfl | split)
@[simp] theorem takeCount_msq (n : Nat) : (takeCount n s).msq = s.msq := by
  unfold takeCount; repeat' (first | rfl | split)
@[simp] theorem takeCount_zct (n : Nat) : (takeCount n s).zct = s.zct := by
  unfold takeCount; repeat' (first | rfl | split)
@[simp] theorem takeCount_hbo (n : Nat) : (takeCount n s).hbo = s.hbo := by
  unfold takeCount; repeat' (first | rfl | split)
@[simp] theorem takeCount_scales (n : Nat) : (takeCount n s).scales = s.scales := by
  unfold takeCount; repeat' (first | rfl | split)
@[simp] theorem takeCount_ltr (n : Nat) : (takeCount n s).ltr = s.ltr := by
  unfold takeCount; repeat' (first | rfl | split)
@[simp] theorem takeCount_shc (n : Nat) : (takeCount n s).shc = s.shc := by
  unfold takeCount; repeat' (first | rfl | split)
@[simp] theorem takeCount_dmi (n : Nat) : (takeCount n s).dmi = s.dmi := by
  unfold takeCount; repeat' (first | rfl | split)
@[simp] theorem takeCount_hrg (n : Nat) : (takeCount n s).hrg = s.hrg := by
  unfold takeCount; repeat' (first | rfl | split)
@[simp] theorem takeCount_freeCount (n : Nat) : (takeCount n s).freeCount = s.freeCount := by
  unfold takeCount; repeat' (first | rfl | split)
@[simp] theorem takeCount_pending (n : Nat) : (takeCount n s).pending = s.pending := by
  unfold takeCount; repeat' (first | rfl | split)

@[simp] theorem endCapture_clock (k : Fin 2) (e : Session) : (endCapture k e s).clock = s.clock := by
  unfold endCapture; repeat' (first | rfl | split | simp)
@[simp] theorem endCapture_msq (k : Fin 2) (e : Session) : (endCapture k e s).msq = s.msq := by
  unfold endCapture; repeat' (first | rfl | split | simp)
@[simp] theorem endCapture_zct (k : Fin 2) (e : Session) : (endCapture k e s).zct = s.zct := by
  unfold endCapture; repeat' (first | rfl | split | simp)
@[simp] theorem endCapture_hbo (k : Fin 2) (e : Session) : (endCapture k e s).hbo = s.hbo := by
  unfold endCapture; repeat' (first | rfl | split | simp)
@[simp] theorem endCapture_shc (k : Fin 2) (e : Session) : (endCapture k e s).shc = s.shc := by
  unfold endCapture; repeat' (first | rfl | split | simp)
@[simp] theorem endCapture_dmi (k : Fin 2) (e : Session) : (endCapture k e s).dmi = s.dmi := by
  unfold endCapture; repeat' (first | rfl | split | simp)
@[simp] theorem endCapture_hrg (k : Fin 2) (e : Session) : (endCapture k e s).hrg = s.hrg := by
  unfold endCapture; repeat' (first | rfl | split | simp)
@[simp] theorem endCapture_ports (k : Fin 2) (e : Session) : (endCapture k e s).ports = s.ports := by
  unfold endCapture; repeat' (first | rfl | split | simp)
@[simp] theorem endCapture_freeCount (k : Fin 2) (e : Session) : (endCapture k e s).freeCount = s.freeCount := by
  unfold endCapture; repeat' (first | rfl | split | simp)
@[simp] theorem endCapture_pending (k : Fin 2) (e : Session) : (endCapture k e s).pending = s.pending := by
  unfold endCapture; repeat' (first | rfl | split | simp)

@[simp] theorem issueCharge_clock (e : Session) : ((issueCharge e s).2).clock = s.clock := by
  unfold issueCharge; repeat' (first | rfl | split | simp)
@[simp] theorem issueCharge_msq (e : Session) : ((issueCharge e s).2).msq = s.msq := by
  unfold issueCharge; repeat' (first | rfl | split | simp)
@[simp] theorem issueCharge_zct (e : Session) : ((issueCharge e s).2).zct = s.zct := by
  unfold issueCharge; repeat' (first | rfl | split | simp)
@[simp] theorem issueCharge_hbo (e : Session) : ((issueCharge e s).2).hbo = s.hbo := by
  unfold issueCharge; repeat' (first | rfl | split | simp)
@[simp] theorem issueCharge_scales (e : Session) : ((issueCharge e s).2).scales = s.scales := by
  unfold issueCharge; repeat' (first | rfl | split | simp)
@[simp] theorem issueCharge_ltr (e : Session) : ((issueCharge e s).2).ltr = s.ltr := by
  unfold issueCharge; repeat' (first | rfl | split | simp)
@[simp] theorem issueCharge_dmi (e : Session) : ((issueCharge e s).2).dmi = s.dmi := by
  unfold issueCharge; repeat' (first | rfl | split | simp)
@[simp] theorem issueCharge_hrg (e : Session) : ((issueCharge e s).2).hrg = s.hrg := by
  unfold issueCharge; repeat' (first | rfl | split | simp)
@[simp] theorem issueCharge_ports (e : Session) : ((issueCharge e s).2).ports = s.ports := by
  unfold issueCharge; repeat' (first | rfl | split | simp)
@[simp] theorem issueCharge_pending (e : Session) : ((issueCharge e s).2).pending = s.pending := by
  unfold issueCharge; repeat' (first | rfl | split | simp)

@[simp] theorem capturePly_clock (k : Fin 2) (e : Session) (v : Nat) : (capturePly k e v s).clock = s.clock := by
  unfold capturePly; repeat' (first | rfl | split | simp)
@[simp] theorem capturePly_msq (k : Fin 2) (e : Session) (v : Nat) : (capturePly k e v s).msq = s.msq := by
  unfold capturePly; repeat' (first | rfl | split | simp)
@[simp] theorem capturePly_zct (k : Fin 2) (e : Session) (v : Nat) : (capturePly k e v s).zct = s.zct := by
  unfold capturePly; repeat' (first | rfl | split | simp)
@[simp] theorem capturePly_hbo (k : Fin 2) (e : Session) (v : Nat) : (capturePly k e v s).hbo = s.hbo := by
  unfold capturePly; repeat' (first | rfl | split | simp)
@[simp] theorem capturePly_dmi (k : Fin 2) (e : Session) (v : Nat) : (capturePly k e v s).dmi = s.dmi := by
  unfold capturePly; repeat' (first | rfl | split | simp)
@[simp] theorem capturePly_hrg (k : Fin 2) (e : Session) (v : Nat) : (capturePly k e v s).hrg = s.hrg := by
  unfold capturePly; repeat' (first | rfl | split | simp)
@[simp] theorem capturePly_pending (k : Fin 2) (e : Session) (v : Nat) : (capturePly k e v s).pending = s.pending := by
  unfold capturePly; repeat' (first | rfl | split | simp)

@[simp] theorem settleCapture_clock (k : Fin 2) : (settleCapture k s).clock = s.clock := by
  unfold settleCapture; repeat' (first | rfl | split | simp)
@[simp] theorem settleCapture_msq (k : Fin 2) : (settleCapture k s).msq = s.msq := by
  unfold settleCapture; repeat' (first | rfl | split | simp)
@[simp] theorem settleCapture_zct (k : Fin 2) : (settleCapture k s).zct = s.zct := by
  unfold settleCapture; repeat' (first | rfl | split | simp)
@[simp] theorem settleCapture_hbo (k : Fin 2) : (settleCapture k s).hbo = s.hbo := by
  unfold settleCapture; repeat' (first | rfl | split | simp)
@[simp] theorem settleCapture_dmi (k : Fin 2) : (settleCapture k s).dmi = s.dmi := by
  unfold settleCapture; repeat' (first | rfl | split | simp)
@[simp] theorem settleCapture_hrg (k : Fin 2) : (settleCapture k s).hrg = s.hrg := by
  unfold settleCapture; repeat' (first | rfl | split | simp)
@[simp] theorem settleCapture_pending (k : Fin 2) : (settleCapture k s).pending = s.pending := by
  unfold settleCapture; repeat' (first | rfl | split | simp)

@[simp] theorem timeoutTare_clock (k : Fin 2) : (timeoutTare k s).clock = s.clock := by
  unfold timeoutTare; repeat' (first | rfl | split)
@[simp] theorem timeoutTare_msq (k : Fin 2) : (timeoutTare k s).msq = s.msq := by
  unfold timeoutTare; repeat' (first | rfl | split)
@[simp] theorem timeoutTare_zct (k : Fin 2) : (timeoutTare k s).zct = s.zct := by
  unfold timeoutTare; repeat' (first | rfl | split)
@[simp] theorem timeoutTare_hbo (k : Fin 2) : (timeoutTare k s).hbo = s.hbo := by
  unfold timeoutTare; repeat' (first | rfl | split)
@[simp] theorem timeoutTare_ltr (k : Fin 2) : (timeoutTare k s).ltr = s.ltr := by
  unfold timeoutTare; repeat' (first | rfl | split)
@[simp] theorem timeoutTare_shc (k : Fin 2) : (timeoutTare k s).shc = s.shc := by
  unfold timeoutTare; repeat' (first | rfl | split)
@[simp] theorem timeoutTare_dmi (k : Fin 2) : (timeoutTare k s).dmi = s.dmi := by
  unfold timeoutTare; repeat' (first | rfl | split)
@[simp] theorem timeoutTare_hrg (k : Fin 2) : (timeoutTare k s).hrg = s.hrg := by
  unfold timeoutTare; repeat' (first | rfl | split)
@[simp] theorem timeoutTare_freeCount (k : Fin 2) : (timeoutTare k s).freeCount = s.freeCount := by
  unfold timeoutTare; repeat' (first | rfl | split)
@[simp] theorem timeoutTare_pending (k : Fin 2) : (timeoutTare k s).pending = s.pending := by
  unfold timeoutTare; repeat' (first | rfl | split)

@[simp] theorem timeoutCapture_clock (k : Fin 2) : (timeoutCapture k s).clock = s.clock := by
  unfold timeoutCapture; repeat' (first | rfl | split | simp)
@[simp] theorem timeoutCapture_msq (k : Fin 2) : (timeoutCapture k s).msq = s.msq := by
  unfold timeoutCapture; repeat' (first | rfl | split | simp)
@[simp] theorem timeoutCapture_zct (k : Fin 2) : (timeoutCapture k s).zct = s.zct := by
  unfold timeoutCapture; repeat' (first | rfl | split | simp)
@[simp] theorem timeoutCapture_hbo (k : Fin 2) : (timeoutCapture k s).hbo = s.hbo := by
  unfold timeoutCapture; repeat' (first | rfl | split | simp)
@[simp] theorem timeoutCapture_shc (k : Fin 2) : (timeoutCapture k s).shc = s.shc := by
  unfold timeoutCapture; repeat' (first | rfl | split | simp)
@[simp] theorem timeoutCapture_dmi (k : Fin 2) : (timeoutCapture k s).dmi = s.dmi := by
  unfold timeoutCapture; repeat' (first | rfl | split | simp)
@[simp] theorem timeoutCapture_hrg (k : Fin 2) : (timeoutCapture k s).hrg = s.hrg := by
  unfold timeoutCapture; repeat' (first | rfl | split | simp)
@[simp] theorem timeoutCapture_freeCount (k : Fin 2) : (timeoutCapture k s).freeCount = s.freeCount := by
  unfold timeoutCapture; repeat' (first | rfl | split | simp)
@[simp] theorem timeoutCapture_pending (k : Fin 2) : (timeoutCapture k s).pending = s.pending := by
  unfold timeoutCapture; repeat' (first | rfl | split | simp)

@[simp] theorem deliver_clock (k : Fin 2) (a : Arrival) : (deliver k a s).clock = s.clock := by
  unfold deliver; repeat' (first | rfl | split | simp)
@[simp] theorem deliver_msq (k : Fin 2) (a : Arrival) : (deliver k a s).msq = s.msq := by
  unfold deliver; repeat' (first | rfl | split | simp)
@[simp] theorem deliver_zct (k : Fin 2) (a : Arrival) : (deliver k a s).zct = s.zct := by
  unfold deliver; repeat' (first | rfl | split | simp)
@[simp] theorem deliver_hbo (k : Fin 2) (a : Arrival) : (deliver k a s).hbo = s.hbo := by
  unfold deliver; repeat' (first | rfl | split | simp)
@[simp] theorem deliver_dmi (k : Fin 2) (a : Arrival) : (deliver k a s).dmi = s.dmi := by
  unfold deliver; repeat' (first | rfl | split | simp)
@[simp] theorem deliver_hrg (k : Fin 2) (a : Arrival) : (deliver k a s).hrg = s.hrg := by
  unfold deliver; repeat' (first | rfl | split | simp)
@[simp] theorem deliver_pending (k : Fin 2) (a : Arrival) : (deliver k a s).pending = s.pending := by
  unfold deliver; repeat' (first | rfl | split | simp)

@[simp] theorem startTc_clock : (startTc s).clock = s.clock := by
  unfold startTc; repeat' (first | rfl | split)
@[simp] theorem startTc_zct : (startTc s).zct = s.zct := by
  unfold startTc; repeat' (first | rfl | split)
@[simp] theorem startTc_hbo : (startTc s).hbo = s.hbo := by
  unfold startTc; repeat' (first | rfl | split)
@[simp] theorem startTc_scales : (startTc s).scales = s.scales := by
  unfold startTc; repeat' (first | rfl | split)
@[simp] theorem startTc_ltr : (startTc s).ltr = s.ltr := by
  unfold startTc; repeat' (first | rfl | split)
@[simp] theorem startTc_shc : (startTc s).shc = s.shc := by
  unfold startTc; repeat' (first | rfl | split)
@[simp] theorem startTc_dmi : (startTc s).dmi = s.dmi := by
  unfold startTc; repeat' (first | rfl | split)
@[simp] theorem startTc_hrg : (startTc s).hrg = s.hrg := by
  unfold startTc; repeat' (first | rfl | split)
@[simp] theorem startTc_ports : (startTc s).ports = s.ports := by
  unfold startTc; repeat' (first | rfl | split)
@[simp] theorem startTc_freeCount : (startTc s).freeCount = s.freeCount := by
  unfold startTc; repeat' (first | rfl | split)
@[simp] theorem startTc_pending : (startTc s).pending = s.pending := by
  unfold startTc; repeat' (first | rfl | split)

@[simp] theorem startLc_clock : (startLc s).clock = s.clock := by
  unfold startLc; repeat' (first | rfl | split)
@[simp] theorem startLc_zct : (startLc s).zct = s.zct := by
  unfold startLc; repeat' (first | rfl | split)
@[simp] theorem startLc_hbo : (startLc s).hbo = s.hbo := by
  unfold startLc; repeat' (first | rfl | split)
@[simp] theorem startLc_scales : (startLc s).scales = s.scales := by
  unfold startLc; repeat' (first | rfl | split)
@[simp] theorem startLc_ltr : (startLc s).ltr = s.ltr := by
  unfold startLc; repeat' (first | rfl | split)
@[simp] theorem startLc_shc : (startLc s).shc = s.shc := by
  unfold startLc; repeat' (first | rfl | split)
@[simp] theorem startLc_dmi : (startLc s).dmi = s.dmi := by
  unfold startLc; repeat' (first | rfl | split)
@[simp] theorem startLc_hrg : (startLc s).hrg = s.hrg := by
  unfold startLc; repeat' (first | rfl | split)
@[simp] theorem startLc_ports : (startLc s).ports = s.ports := by
  unfold startLc; repeat' (first | rfl | split)
@[simp] theorem startLc_freeCount : (startLc s).freeCount = s.freeCount := by
  unfold startLc; repeat' (first | rfl | split)
@[simp] theorem startLc_pending : (startLc s).pending = s.pending := by
  unfold startLc; repeat' (first | rfl | split)

@[simp] theorem arriveTc_clock (c : Nat) (r : TcResult) (v : Int) : (arriveTc c r v s).clock = s.clock := by
  unfold arriveTc; repeat' (first | rfl | split | simp)
@[simp] theorem arriveTc_zct (c : Nat) (r : TcResult) (v : Int) : (arriveTc c r v s).zct = s.zct := by
  unfold arriveTc; repeat' (first | rfl | split | simp)
@[simp] theorem arriveTc_hbo (c : Nat) (r : TcResult) (v : Int) : (arriveTc c r v s).hbo = s.hbo := by
  unfold arriveTc; repeat' (first | rfl | split | simp)
@[simp] theorem arriveTc_scales (c : Nat) (r : TcResult) (v : Int) : (arriveTc c r v s).scales = s.scales := by
  unfold arriveTc; repeat' (first | rfl | split | simp)
@[simp] theorem arriveTc_ltr (c : Nat) (r : TcResult) (v : Int) : (arriveTc c r v s).ltr = s.ltr := by
  unfold arriveTc; repeat' (first | rfl | split | simp)
@[simp] theorem arriveTc_shc (c : Nat) (r : TcResult) (v : Int) : (arriveTc c r v s).shc = s.shc := by
  unfold arriveTc; repeat' (first | rfl | split | simp)
@[simp] theorem arriveTc_dmi (c : Nat) (r : TcResult) (v : Int) : (arriveTc c r v s).dmi = s.dmi := by
  unfold arriveTc; repeat' (first | rfl | split | simp)
@[simp] theorem arriveTc_hrg (c : Nat) (r : TcResult) (v : Int) : (arriveTc c r v s).hrg = s.hrg := by
  unfold arriveTc; repeat' (first | rfl | split | simp)
@[simp] theorem arriveTc_ports (c : Nat) (r : TcResult) (v : Int) : (arriveTc c r v s).ports = s.ports := by
  unfold arriveTc; repeat' (first | rfl | split | simp)
@[simp] theorem arriveTc_freeCount (c : Nat) (r : TcResult) (v : Int) : (arriveTc c r v s).freeCount = s.freeCount := by
  unfold arriveTc; repeat' (first | rfl | split | simp)
@[simp] theorem arriveTc_pending (c : Nat) (r : TcResult) (v : Int) : (arriveTc c r v s).pending = s.pending := by
  unfold arriveTc; repeat' (first | rfl | split | simp)

@[simp] theorem arriveLc_clock (c : Nat) (r : LcResult) (v : Int) : (arriveLc c r v s).clock = s.clock := by
  unfold arriveLc; repeat' (first | rfl | split | simp)
@[simp] theorem arriveLc_zct (c : Nat) (r : LcResult) (v : Int) : (arriveLc c r v s).zct = s.zct := by
  unfold arriveLc; repeat' (first | rfl | split | simp)
@[simp] theorem arriveLc_hbo (c : Nat) (r : LcResult) (v : Int) : (arriveLc c r v s).hbo = s.hbo := by
  unfold arriveLc; repeat' (first | rfl | split | simp)
@[simp] theorem arriveLc_dmi (c : Nat) (r : LcResult) (v : Int) : (arriveLc c r v s).dmi = s.dmi := by
  unfold arriveLc; repeat' (first | rfl | split | simp)
@[simp] theorem arriveLc_hrg (c : Nat) (r : LcResult) (v : Int) : (arriveLc c r v s).hrg = s.hrg := by
  unfold arriveLc; repeat' (first | rfl | split | simp)
@[simp] theorem arriveLc_pending (c : Nat) (r : LcResult) (v : Int) : (arriveLc c r v s).pending = s.pending := by
  unfold arriveLc; repeat' (first | rfl | split | simp)

@[simp] theorem expireConversion_clock (l : Converter) : (expireConversion l s).clock = s.clock := by
  unfold expireConversion; repeat' (first | rfl | split | simp)
@[simp] theorem expireConversion_zct (l : Converter) : (expireConversion l s).zct = s.zct := by
  unfold expireConversion; repeat' (first | rfl | split | simp)
@[simp] theorem expireConversion_hbo (l : Converter) : (expireConversion l s).hbo = s.hbo := by
  unfold expireConversion; repeat' (first | rfl | split | simp)
@[simp] theorem expireConversion_dmi (l : Converter) : (expireConversion l s).dmi = s.dmi := by
  unfold expireConversion; repeat' (first | rfl | split | simp)
@[simp] theorem expireConversion_hrg (l : Converter) : (expireConversion l s).hrg = s.hrg := by
  unfold expireConversion; repeat' (first | rfl | split | simp)
@[simp] theorem expireConversion_pending (l : Converter) : (expireConversion l s).pending = s.pending := by
  unfold expireConversion; repeat' (first | rfl | split | simp)

@[simp] theorem unusable_clock (l : Converter) (w : Unusable) : (unusable l w s).clock = s.clock := by
  unfold unusable; repeat' (first | rfl | split | simp)
@[simp] theorem unusable_zct (l : Converter) (w : Unusable) : (unusable l w s).zct = s.zct := by
  unfold unusable; repeat' (first | rfl | split | simp)
@[simp] theorem unusable_hbo (l : Converter) (w : Unusable) : (unusable l w s).hbo = s.hbo := by
  unfold unusable; repeat' (first | rfl | split | simp)
@[simp] theorem unusable_scales (l : Converter) (w : Unusable) : (unusable l w s).scales = s.scales := by
  unfold unusable; repeat' (first | rfl | split | simp)
@[simp] theorem unusable_ltr (l : Converter) (w : Unusable) : (unusable l w s).ltr = s.ltr := by
  unfold unusable; repeat' (first | rfl | split | simp)
@[simp] theorem unusable_shc (l : Converter) (w : Unusable) : (unusable l w s).shc = s.shc := by
  unfold unusable; repeat' (first | rfl | split | simp)
@[simp] theorem unusable_dmi (l : Converter) (w : Unusable) : (unusable l w s).dmi = s.dmi := by
  unfold unusable; repeat' (first | rfl | split | simp)
@[simp] theorem unusable_hrg (l : Converter) (w : Unusable) : (unusable l w s).hrg = s.hrg := by
  unfold unusable; repeat' (first | rfl | split | simp)
@[simp] theorem unusable_ports (l : Converter) (w : Unusable) : (unusable l w s).ports = s.ports := by
  unfold unusable; repeat' (first | rfl | split | simp)
@[simp] theorem unusable_freeCount (l : Converter) (w : Unusable) : (unusable l w s).freeCount = s.freeCount := by
  unfold unusable; repeat' (first | rfl | split | simp)
@[simp] theorem unusable_pending (l : Converter) (w : Unusable) : (unusable l w s).pending = s.pending := by
  unfold unusable; repeat' (first | rfl | split | simp)

@[simp] theorem endStandbyWait_clock : (endStandbyWait s).clock = s.clock := by
  unfold endStandbyWait; repeat' (first | rfl | split)
@[simp] theorem endStandbyWait_msq : (endStandbyWait s).msq = s.msq := by
  unfold endStandbyWait; repeat' (first | rfl | split)
@[simp] theorem endStandbyWait_hbo : (endStandbyWait s).hbo = s.hbo := by
  unfold endStandbyWait; repeat' (first | rfl | split)
@[simp] theorem endStandbyWait_scales : (endStandbyWait s).scales = s.scales := by
  unfold endStandbyWait; repeat' (first | rfl | split)
@[simp] theorem endStandbyWait_ltr : (endStandbyWait s).ltr = s.ltr := by
  unfold endStandbyWait; repeat' (first | rfl | split)
@[simp] theorem endStandbyWait_shc : (endStandbyWait s).shc = s.shc := by
  unfold endStandbyWait; repeat' (first | rfl | split)
@[simp] theorem endStandbyWait_dmi : (endStandbyWait s).dmi = s.dmi := by
  unfold endStandbyWait; repeat' (first | rfl | split)
@[simp] theorem endStandbyWait_hrg : (endStandbyWait s).hrg = s.hrg := by
  unfold endStandbyWait; repeat' (first | rfl | split)
@[simp] theorem endStandbyWait_freeCount : (endStandbyWait s).freeCount = s.freeCount := by
  unfold endStandbyWait; repeat' (first | rfl | split)
@[simp] theorem endStandbyWait_pending : (endStandbyWait s).pending = s.pending := by
  unfold endStandbyWait; repeat' (first | rfl | split)

@[simp] theorem faultNotices_clock (zs : List (Fin 12)) : (faultNotices zs s).clock = s.clock := foldl_keeps (fun t : State => t.clock) _ _ _ (fun _ _ => rfl)
@[simp] theorem faultNotices_msq (zs : List (Fin 12)) : (faultNotices zs s).msq = s.msq := foldl_keeps (fun t : State => t.msq) _ _ _ (fun _ _ => rfl)
@[simp] theorem faultNotices_zct (zs : List (Fin 12)) : (faultNotices zs s).zct = s.zct := foldl_keeps (fun t : State => t.zct) _ _ _ (fun _ _ => rfl)
@[simp] theorem faultNotices_hbo (zs : List (Fin 12)) : (faultNotices zs s).hbo = s.hbo := foldl_keeps (fun t : State => t.hbo) _ _ _ (fun _ _ => rfl)
@[simp] theorem faultNotices_scales (zs : List (Fin 12)) : (faultNotices zs s).scales = s.scales := foldl_keeps (fun t : State => t.scales) _ _ _ (fun _ _ => rfl)
@[simp] theorem faultNotices_ltr (zs : List (Fin 12)) : (faultNotices zs s).ltr = s.ltr := foldl_keeps (fun t : State => t.ltr) _ _ _ (fun _ _ => rfl)
@[simp] theorem faultNotices_shc (zs : List (Fin 12)) : (faultNotices zs s).shc = s.shc := foldl_keeps (fun t : State => t.shc) _ _ _ (fun _ _ => rfl)
@[simp] theorem faultNotices_dmi (zs : List (Fin 12)) : (faultNotices zs s).dmi = s.dmi := foldl_keeps (fun t : State => t.dmi) _ _ _ (fun _ _ => rfl)
@[simp] theorem faultNotices_hrg (zs : List (Fin 12)) : (faultNotices zs s).hrg = s.hrg := foldl_keeps (fun t : State => t.hrg) _ _ _ (fun _ _ => rfl)
@[simp] theorem faultNotices_freeCount (zs : List (Fin 12)) : (faultNotices zs s).freeCount = s.freeCount := foldl_keeps (fun t : State => t.freeCount) _ _ _ (fun _ _ => rfl)
@[simp] theorem faultNotices_pending (zs : List (Fin 12)) : (faultNotices zs s).pending = s.pending := foldl_keeps (fun t : State => t.pending) _ _ _ (fun _ _ => rfl)

@[simp] theorem frameBoundary_clock : (frameBoundary s).clock = s.clock := by
  unfold frameBoundary; repeat' (first | rfl | split | simp)
@[simp] theorem frameBoundary_msq : (frameBoundary s).msq = s.msq := by
  unfold frameBoundary; repeat' (first | rfl | split | simp)
@[simp] theorem frameBoundary_scales : (frameBoundary s).scales = s.scales := by
  unfold frameBoundary; repeat' (first | rfl | split | simp)
@[simp] theorem frameBoundary_ltr : (frameBoundary s).ltr = s.ltr := by
  unfold frameBoundary; repeat' (first | rfl | split | simp)
@[simp] theorem frameBoundary_hrg : (frameBoundary s).hrg = s.hrg := by
  unfold frameBoundary; repeat' (first | rfl | split | simp)
@[simp] theorem frameBoundary_freeCount : (frameBoundary s).freeCount = s.freeCount := by
  unfold frameBoundary; repeat' (first | rfl | split | simp)
@[simp] theorem frameBoundary_pending : (frameBoundary s).pending = s.pending := by
  unfold frameBoundary; repeat' (first | rfl | split | simp)

@[simp] theorem mainsReturn_clock : (mainsReturn s).clock = s.clock := by
  unfold mainsReturn; repeat' (first | rfl | split | simp)
@[simp] theorem mainsReturn_msq : (mainsReturn s).msq = s.msq := by
  unfold mainsReturn; repeat' (first | rfl | split | simp)
@[simp] theorem mainsReturn_scales : (mainsReturn s).scales = s.scales := by
  unfold mainsReturn; repeat' (first | rfl | split | simp)
@[simp] theorem mainsReturn_ltr : (mainsReturn s).ltr = s.ltr := by
  unfold mainsReturn; repeat' (first | rfl | split | simp)
@[simp] theorem mainsReturn_hrg : (mainsReturn s).hrg = s.hrg := by
  unfold mainsReturn; repeat' (first | rfl | split | simp)
@[simp] theorem mainsReturn_freeCount : (mainsReturn s).freeCount = s.freeCount := by
  unfold mainsReturn; repeat' (first | rfl | split | simp)
@[simp] theorem mainsReturn_pending : (mainsReturn s).pending = s.pending := by
  unfold mainsReturn; repeat' (first | rfl | split | simp)

@[simp] theorem pulse_clock : (pulse s).clock = s.clock := by
  unfold pulse; repeat' (first | rfl | split | simp)
@[simp] theorem pulse_msq : (pulse s).msq = s.msq := by
  unfold pulse; repeat' (first | rfl | split | simp)
@[simp] theorem pulse_scales : (pulse s).scales = s.scales := by
  unfold pulse; repeat' (first | rfl | split | simp)
@[simp] theorem pulse_ltr : (pulse s).ltr = s.ltr := by
  unfold pulse; repeat' (first | rfl | split | simp)
@[simp] theorem pulse_hrg : (pulse s).hrg = s.hrg := by
  unfold pulse; repeat' (first | rfl | split | simp)
@[simp] theorem pulse_freeCount : (pulse s).freeCount = s.freeCount := by
  unfold pulse; repeat' (first | rfl | split | simp)
@[simp] theorem pulse_pending : (pulse s).pending = s.pending := by
  unfold pulse; repeat' (first | rfl | split | simp)

@[simp] theorem loseMains_clock : (loseMains s).clock = s.clock := by
  unfold loseMains; repeat' (first | rfl | split)
@[simp] theorem loseMains_msq : (loseMains s).msq = s.msq := by
  unfold loseMains; repeat' (first | rfl | split)
@[simp] theorem loseMains_zct : (loseMains s).zct = s.zct := by
  unfold loseMains; repeat' (first | rfl | split)
@[simp] theorem loseMains_scales : (loseMains s).scales = s.scales := by
  unfold loseMains; repeat' (first | rfl | split)
@[simp] theorem loseMains_ltr : (loseMains s).ltr = s.ltr := by
  unfold loseMains; repeat' (first | rfl | split)
@[simp] theorem loseMains_shc : (loseMains s).shc = s.shc := by
  unfold loseMains; repeat' (first | rfl | split)
@[simp] theorem loseMains_dmi : (loseMains s).dmi = s.dmi := by
  unfold loseMains; repeat' (first | rfl | split)
@[simp] theorem loseMains_hrg : (loseMains s).hrg = s.hrg := by
  unfold loseMains; repeat' (first | rfl | split)
@[simp] theorem loseMains_freeCount : (loseMains s).freeCount = s.freeCount := by
  unfold loseMains; repeat' (first | rfl | split)
@[simp] theorem loseMains_pending : (loseMains s).pending = s.pending := by
  unfold loseMains; repeat' (first | rfl | split)

@[simp] theorem abandonSession_clock (k : Fin 2) (e : Session) : (abandonSession k e s).clock = s.clock := by
  unfold abandonSession; repeat' (first | rfl | split | simp)
@[simp] theorem abandonSession_msq (k : Fin 2) (e : Session) : (abandonSession k e s).msq = s.msq := by
  unfold abandonSession; repeat' (first | rfl | split | simp)
@[simp] theorem abandonSession_zct (k : Fin 2) (e : Session) : (abandonSession k e s).zct = s.zct := by
  unfold abandonSession; repeat' (first | rfl | split | simp)
@[simp] theorem abandonSession_hbo (k : Fin 2) (e : Session) : (abandonSession k e s).hbo = s.hbo := by
  unfold abandonSession; repeat' (first | rfl | split | simp)
@[simp] theorem abandonSession_shc (k : Fin 2) (e : Session) : (abandonSession k e s).shc = s.shc := by
  unfold abandonSession; repeat' (first | rfl | split | simp)
@[simp] theorem abandonSession_dmi (k : Fin 2) (e : Session) : (abandonSession k e s).dmi = s.dmi := by
  unfold abandonSession; repeat' (first | rfl | split | simp)
@[simp] theorem abandonSession_hrg (k : Fin 2) (e : Session) : (abandonSession k e s).hrg = s.hrg := by
  unfold abandonSession; repeat' (first | rfl | split | simp)
@[simp] theorem abandonSession_ports (k : Fin 2) (e : Session) : (abandonSession k e s).ports = s.ports := by
  unfold abandonSession; repeat' (first | rfl | split | simp)
@[simp] theorem abandonSession_freeCount (k : Fin 2) (e : Session) : (abandonSession k e s).freeCount = s.freeCount := by
  unfold abandonSession; repeat' (first | rfl | split | simp)
@[simp] theorem abandonSession_pending (k : Fin 2) (e : Session) : (abandonSession k e s).pending = s.pending := by
  unfold abandonSession; repeat' (first | rfl | split | simp)

@[simp] theorem makeCurrent_clock (k : Fin 2) (lot : Nat) : (makeCurrent k lot s).clock = s.clock := by
  unfold makeCurrent; repeat' (first | rfl | split | simp)
@[simp] theorem makeCurrent_msq (k : Fin 2) (lot : Nat) : (makeCurrent k lot s).msq = s.msq := by
  unfold makeCurrent; repeat' (first | rfl | split | simp)
@[simp] theorem makeCurrent_zct (k : Fin 2) (lot : Nat) : (makeCurrent k lot s).zct = s.zct := by
  unfold makeCurrent; repeat' (first | rfl | split | simp)
@[simp] theorem makeCurrent_hbo (k : Fin 2) (lot : Nat) : (makeCurrent k lot s).hbo = s.hbo := by
  unfold makeCurrent; repeat' (first | rfl | split | simp)
@[simp] theorem makeCurrent_shc (k : Fin 2) (lot : Nat) : (makeCurrent k lot s).shc = s.shc := by
  unfold makeCurrent; repeat' (first | rfl | split | simp)
@[simp] theorem makeCurrent_dmi (k : Fin 2) (lot : Nat) : (makeCurrent k lot s).dmi = s.dmi := by
  unfold makeCurrent; repeat' (first | rfl | split | simp)
@[simp] theorem makeCurrent_hrg (k : Fin 2) (lot : Nat) : (makeCurrent k lot s).hrg = s.hrg := by
  unfold makeCurrent; repeat' (first | rfl | split | simp)
@[simp] theorem makeCurrent_freeCount (k : Fin 2) (lot : Nat) : (makeCurrent k lot s).freeCount = s.freeCount := by
  unfold makeCurrent; repeat' (first | rfl | split | simp)
@[simp] theorem makeCurrent_pending (k : Fin 2) (lot : Nat) : (makeCurrent k lot s).pending = s.pending := by
  unfold makeCurrent; repeat' (first | rfl | split | simp)

@[simp] theorem expireRecord_clock (r : RackRecord) : (expireRecord r s).clock = s.clock := by
  unfold expireRecord; repeat' (first | rfl | split)
@[simp] theorem expireRecord_msq (r : RackRecord) : (expireRecord r s).msq = s.msq := by
  unfold expireRecord; repeat' (first | rfl | split)
@[simp] theorem expireRecord_zct (r : RackRecord) : (expireRecord r s).zct = s.zct := by
  unfold expireRecord; repeat' (first | rfl | split)
@[simp] theorem expireRecord_hbo (r : RackRecord) : (expireRecord r s).hbo = s.hbo := by
  unfold expireRecord; repeat' (first | rfl | split)
@[simp] theorem expireRecord_scales (r : RackRecord) : (expireRecord r s).scales = s.scales := by
  unfold expireRecord; repeat' (first | rfl | split)
@[simp] theorem expireRecord_shc (r : RackRecord) : (expireRecord r s).shc = s.shc := by
  unfold expireRecord; repeat' (first | rfl | split)
@[simp] theorem expireRecord_dmi (r : RackRecord) : (expireRecord r s).dmi = s.dmi := by
  unfold expireRecord; repeat' (first | rfl | split)
@[simp] theorem expireRecord_hrg (r : RackRecord) : (expireRecord r s).hrg = s.hrg := by
  unfold expireRecord; repeat' (first | rfl | split)
@[simp] theorem expireRecord_freeCount (r : RackRecord) : (expireRecord r s).freeCount = s.freeCount := by
  unfold expireRecord; repeat' (first | rfl | split)
@[simp] theorem expireRecord_pending (r : RackRecord) : (expireRecord r s).pending = s.pending := by
  unfold expireRecord; repeat' (first | rfl | split)

@[simp] theorem expireCharge_clock (id : Nat) : (expireCharge id s).clock = s.clock := by
  unfold expireCharge; repeat' (first | rfl | split | simp)
@[simp] theorem expireCharge_msq (id : Nat) : (expireCharge id s).msq = s.msq := by
  unfold expireCharge; repeat' (first | rfl | split | simp)
@[simp] theorem expireCharge_zct (id : Nat) : (expireCharge id s).zct = s.zct := by
  unfold expireCharge; repeat' (first | rfl | split | simp)
@[simp] theorem expireCharge_hbo (id : Nat) : (expireCharge id s).hbo = s.hbo := by
  unfold expireCharge; repeat' (first | rfl | split | simp)
@[simp] theorem expireCharge_scales (id : Nat) : (expireCharge id s).scales = s.scales := by
  unfold expireCharge; repeat' (first | rfl | split | simp)
@[simp] theorem expireCharge_shc (id : Nat) : (expireCharge id s).shc = s.shc := by
  unfold expireCharge; repeat' (first | rfl | split | simp)
@[simp] theorem expireCharge_dmi (id : Nat) : (expireCharge id s).dmi = s.dmi := by
  unfold expireCharge; repeat' (first | rfl | split | simp)
@[simp] theorem expireCharge_hrg (id : Nat) : (expireCharge id s).hrg = s.hrg := by
  unfold expireCharge; repeat' (first | rfl | split | simp)
@[simp] theorem expireCharge_freeCount (id : Nat) : (expireCharge id s).freeCount = s.freeCount := by
  unfold expireCharge; repeat' (first | rfl | split | simp)
@[simp] theorem expireCharge_pending (id : Nat) : (expireCharge id s).pending = s.pending := by
  unfold expireCharge; repeat' (first | rfl | split | simp)

@[simp] theorem expireCharges_clock : (expireCharges s).clock = s.clock := by
  unfold expireCharges
  simp [foldl_keeps (fun t : State => t.clock)]
@[simp] theorem expireCharges_msq : (expireCharges s).msq = s.msq := by
  unfold expireCharges
  simp [foldl_keeps (fun t : State => t.msq)]
@[simp] theorem expireCharges_zct : (expireCharges s).zct = s.zct := by
  unfold expireCharges
  simp [foldl_keeps (fun t : State => t.zct)]
@[simp] theorem expireCharges_hbo : (expireCharges s).hbo = s.hbo := by
  unfold expireCharges
  simp [foldl_keeps (fun t : State => t.hbo)]
@[simp] theorem expireCharges_scales : (expireCharges s).scales = s.scales := by
  unfold expireCharges
  simp [foldl_keeps (fun t : State => t.scales)]
@[simp] theorem expireCharges_shc : (expireCharges s).shc = s.shc := by
  unfold expireCharges
  simp [foldl_keeps (fun t : State => t.shc)]
@[simp] theorem expireCharges_dmi : (expireCharges s).dmi = s.dmi := by
  unfold expireCharges
  simp [foldl_keeps (fun t : State => t.dmi)]
@[simp] theorem expireCharges_hrg : (expireCharges s).hrg = s.hrg := by
  unfold expireCharges
  simp [foldl_keeps (fun t : State => t.hrg)]
@[simp] theorem expireCharges_freeCount : (expireCharges s).freeCount = s.freeCount := by
  unfold expireCharges
  simp [foldl_keeps (fun t : State => t.freeCount)]
@[simp] theorem expireCharges_pending : (expireCharges s).pending = s.pending := by
  unfold expireCharges
  simp [foldl_keeps (fun t : State => t.pending)]

@[simp] theorem stage_clock (k : Fin 4) (r : RackRecord) : (stage k r s).clock = s.clock := by
  unfold stage; repeat' (first | rfl | split | simp)
@[simp] theorem stage_msq (k : Fin 4) (r : RackRecord) : (stage k r s).msq = s.msq := by
  unfold stage; repeat' (first | rfl | split | simp)
@[simp] theorem stage_zct (k : Fin 4) (r : RackRecord) : (stage k r s).zct = s.zct := by
  unfold stage; repeat' (first | rfl | split | simp)
@[simp] theorem stage_hbo (k : Fin 4) (r : RackRecord) : (stage k r s).hbo = s.hbo := by
  unfold stage; repeat' (first | rfl | split | simp)
@[simp] theorem stage_scales (k : Fin 4) (r : RackRecord) : (stage k r s).scales = s.scales := by
  unfold stage; repeat' (first | rfl | split | simp)
@[simp] theorem stage_dmi (k : Fin 4) (r : RackRecord) : (stage k r s).dmi = s.dmi := by
  unfold stage; repeat' (first | rfl | split | simp)
@[simp] theorem stage_freeCount (k : Fin 4) (r : RackRecord) : (stage k r s).freeCount = s.freeCount := by
  unfold stage; repeat' (first | rfl | split | simp)
@[simp] theorem stage_pending (k : Fin 4) (r : RackRecord) : (stage k r s).pending = s.pending := by
  unfold stage; repeat' (first | rfl | split | simp)

@[simp] theorem heatForShot_clock : (heatForShot s).clock = s.clock := by
  unfold heatForShot; repeat' (first | rfl | split)
@[simp] theorem heatForShot_msq : (heatForShot s).msq = s.msq := by
  unfold heatForShot; repeat' (first | rfl | split)
@[simp] theorem heatForShot_hbo : (heatForShot s).hbo = s.hbo := by
  unfold heatForShot; repeat' (first | rfl | split)
@[simp] theorem heatForShot_scales : (heatForShot s).scales = s.scales := by
  unfold heatForShot; repeat' (first | rfl | split)
@[simp] theorem heatForShot_ltr : (heatForShot s).ltr = s.ltr := by
  unfold heatForShot; repeat' (first | rfl | split)
@[simp] theorem heatForShot_shc : (heatForShot s).shc = s.shc := by
  unfold heatForShot; repeat' (first | rfl | split)
@[simp] theorem heatForShot_dmi : (heatForShot s).dmi = s.dmi := by
  unfold heatForShot; repeat' (first | rfl | split)
@[simp] theorem heatForShot_hrg : (heatForShot s).hrg = s.hrg := by
  unfold heatForShot; repeat' (first | rfl | split)
@[simp] theorem heatForShot_freeCount : (heatForShot s).freeCount = s.freeCount := by
  unfold heatForShot; repeat' (first | rfl | split)
@[simp] theorem heatForShot_pending : (heatForShot s).pending = s.pending := by
  unfold heatForShot; repeat' (first | rfl | split)

@[simp] theorem arm_clock (i : Fin 8) (r : Recipe) (m : BitVec 8) : (arm i r m s).clock = s.clock := by
  unfold arm; repeat' (first | rfl | split | simp)
@[simp] theorem arm_msq (i : Fin 8) (r : Recipe) (m : BitVec 8) : (arm i r m s).msq = s.msq := by
  unfold arm; repeat' (first | rfl | split | simp)
@[simp] theorem arm_hbo (i : Fin 8) (r : Recipe) (m : BitVec 8) : (arm i r m s).hbo = s.hbo := by
  unfold arm; repeat' (first | rfl | split | simp)
@[simp] theorem arm_scales (i : Fin 8) (r : Recipe) (m : BitVec 8) : (arm i r m s).scales = s.scales := by
  unfold arm; repeat' (first | rfl | split | simp)
@[simp] theorem arm_ltr (i : Fin 8) (r : Recipe) (m : BitVec 8) : (arm i r m s).ltr = s.ltr := by
  unfold arm; repeat' (first | rfl | split | simp)
@[simp] theorem arm_dmi (i : Fin 8) (r : Recipe) (m : BitVec 8) : (arm i r m s).dmi = s.dmi := by
  unfold arm; repeat' (first | rfl | split | simp)
@[simp] theorem arm_hrg (i : Fin 8) (r : Recipe) (m : BitVec 8) : (arm i r m s).hrg = s.hrg := by
  unfold arm; repeat' (first | rfl | split | simp)
@[simp] theorem arm_pending (i : Fin 8) (r : Recipe) (m : BitVec 8) : (arm i r m s).pending = s.pending := by
  unfold arm; repeat' (first | rfl | split | simp)

@[simp] theorem load_clock (k : Fin 4) (r : RackRecord) : (load k r s).clock = s.clock := by
  unfold load; repeat' (first | rfl)
@[simp] theorem load_msq (k : Fin 4) (r : RackRecord) : (load k r s).msq = s.msq := by
  unfold load; repeat' (first | rfl)
@[simp] theorem load_zct (k : Fin 4) (r : RackRecord) : (load k r s).zct = s.zct := by
  unfold load; repeat' (first | rfl)
@[simp] theorem load_hbo (k : Fin 4) (r : RackRecord) : (load k r s).hbo = s.hbo := by
  unfold load; repeat' (first | rfl)
@[simp] theorem load_scales (k : Fin 4) (r : RackRecord) : (load k r s).scales = s.scales := by
  unfold load; repeat' (first | rfl)
@[simp] theorem load_dmi (k : Fin 4) (r : RackRecord) : (load k r s).dmi = s.dmi := by
  unfold load; repeat' (first | rfl)
@[simp] theorem load_hrg (k : Fin 4) (r : RackRecord) : (load k r s).hrg = s.hrg := by
  unfold load; repeat' (first | rfl)
@[simp] theorem load_ports (k : Fin 4) (r : RackRecord) : (load k r s).ports = s.ports := by
  unfold load; repeat' (first | rfl)
@[simp] theorem load_freeCount (k : Fin 4) (r : RackRecord) : (load k r s).freeCount = s.freeCount := by
  unfold load; repeat' (first | rfl)
@[simp] theorem load_pending (k : Fin 4) (r : RackRecord) : (load k r s).pending = s.pending := by
  unfold load; repeat' (first | rfl)

@[simp] theorem removeFrom_clock (n : Nat) (k : Fin 4) (c : Cavity) : (removeFrom n k c s).clock = s.clock := by
  unfold removeFrom; repeat' (first | rfl | split | simp)
@[simp] theorem removeFrom_msq (n : Nat) (k : Fin 4) (c : Cavity) : (removeFrom n k c s).msq = s.msq := by
  unfold removeFrom; repeat' (first | rfl | split | simp)
@[simp] theorem removeFrom_zct (n : Nat) (k : Fin 4) (c : Cavity) : (removeFrom n k c s).zct = s.zct := by
  unfold removeFrom; repeat' (first | rfl | split | simp)
@[simp] theorem removeFrom_hbo (n : Nat) (k : Fin 4) (c : Cavity) : (removeFrom n k c s).hbo = s.hbo := by
  unfold removeFrom; repeat' (first | rfl | split | simp)
@[simp] theorem removeFrom_scales (n : Nat) (k : Fin 4) (c : Cavity) : (removeFrom n k c s).scales = s.scales := by
  unfold removeFrom; repeat' (first | rfl | split | simp)
@[simp] theorem removeFrom_freeCount (n : Nat) (k : Fin 4) (c : Cavity) : (removeFrom n k c s).freeCount = s.freeCount := by
  unfold removeFrom; repeat' (first | rfl | split | simp)
@[simp] theorem removeFrom_pending (n : Nat) (k : Fin 4) (c : Cavity) : (removeFrom n k c s).pending = s.pending := by
  unfold removeFrom; repeat' (first | rfl | split | simp)

@[simp] theorem examineDeadlines_clock : (examineDeadlines s).clock = s.clock := by
  unfold examineDeadlines; repeat' (first | rfl | split | simp)
@[simp] theorem examineDeadlines_msq : (examineDeadlines s).msq = s.msq := by
  unfold examineDeadlines; repeat' (first | rfl | split | simp)
@[simp] theorem examineDeadlines_zct : (examineDeadlines s).zct = s.zct := by
  unfold examineDeadlines; repeat' (first | rfl | split | simp)
@[simp] theorem examineDeadlines_hbo : (examineDeadlines s).hbo = s.hbo := by
  unfold examineDeadlines; repeat' (first | rfl | split | simp)
@[simp] theorem examineDeadlines_scales : (examineDeadlines s).scales = s.scales := by
  unfold examineDeadlines; repeat' (first | rfl | split | simp)
@[simp] theorem examineDeadlines_ltr : (examineDeadlines s).ltr = s.ltr := by
  unfold examineDeadlines; repeat' (first | rfl | split | simp)
@[simp] theorem examineDeadlines_hrg : (examineDeadlines s).hrg = s.hrg := by
  unfold examineDeadlines; repeat' (first | rfl | split | simp)
@[simp] theorem examineDeadlines_freeCount : (examineDeadlines s).freeCount = s.freeCount := by
  unfold examineDeadlines; repeat' (first | rfl | split | simp)
@[simp] theorem examineDeadlines_pending : (examineDeadlines s).pending = s.pending := by
  unfold examineDeadlines; repeat' (first | rfl | split | simp)

@[simp] theorem openMould_clock (sh : Shot) (e : Bool) : (openMould sh e s).clock = s.clock := by
  unfold openMould; repeat' (first | rfl | split | simp)
@[simp] theorem openMould_msq (sh : Shot) (e : Bool) : (openMould sh e s).msq = s.msq := by
  unfold openMould; repeat' (first | rfl | split | simp)
@[simp] theorem openMould_zct (sh : Shot) (e : Bool) : (openMould sh e s).zct = s.zct := by
  unfold openMould; repeat' (first | rfl | split | simp)
@[simp] theorem openMould_hbo (sh : Shot) (e : Bool) : (openMould sh e s).hbo = s.hbo := by
  unfold openMould; repeat' (first | rfl | split | simp)
@[simp] theorem openMould_scales (sh : Shot) (e : Bool) : (openMould sh e s).scales = s.scales := by
  unfold openMould; repeat' (first | rfl | split | simp)
@[simp] theorem openMould_ltr (sh : Shot) (e : Bool) : (openMould sh e s).ltr = s.ltr := by
  unfold openMould; repeat' (first | rfl | split | simp)
@[simp] theorem openMould_hrg (sh : Shot) (e : Bool) : (openMould sh e s).hrg = s.hrg := by
  unfold openMould; repeat' (first | rfl | split | simp)
@[simp] theorem openMould_pending (sh : Shot) (e : Bool) : (openMould sh e s).pending = s.pending := by
  unfold openMould; repeat' (first | rfl | split | simp)

@[simp] theorem freePress_clock : (freePress s).clock = s.clock := by
  unfold freePress; repeat' (first | rfl | split | simp)
@[simp] theorem freePress_msq : (freePress s).msq = s.msq := by
  unfold freePress; repeat' (first | rfl | split | simp)
@[simp] theorem freePress_hbo : (freePress s).hbo = s.hbo := by
  unfold freePress; repeat' (first | rfl | split | simp)
@[simp] theorem freePress_scales : (freePress s).scales = s.scales := by
  unfold freePress; repeat' (first | rfl | split | simp)
@[simp] theorem freePress_ltr : (freePress s).ltr = s.ltr := by
  unfold freePress; repeat' (first | rfl | split | simp)
@[simp] theorem freePress_dmi : (freePress s).dmi = s.dmi := by
  unfold freePress; repeat' (first | rfl | split | simp)
@[simp] theorem freePress_hrg : (freePress s).hrg = s.hrg := by
  unfold freePress; repeat' (first | rfl | split | simp)
@[simp] theorem freePress_ports : (freePress s).ports = s.ports := by
  unfold freePress; repeat' (first | rfl | split | simp)
@[simp] theorem freePress_freeCount : (freePress s).freeCount = s.freeCount := by
  unfold freePress; repeat' (first | rfl | split | simp)
@[simp] theorem freePress_pending : (freePress s).pending = s.pending := by
  unfold freePress; repeat' (first | rfl | split | simp)

@[simp] theorem implicitAbort_clock (sh : Shot) : (implicitAbort sh s).clock = s.clock := by
  unfold implicitAbort; repeat' (first | rfl | split | simp)
@[simp] theorem implicitAbort_msq (sh : Shot) : (implicitAbort sh s).msq = s.msq := by
  unfold implicitAbort; repeat' (first | rfl | split | simp)
@[simp] theorem implicitAbort_hbo (sh : Shot) : (implicitAbort sh s).hbo = s.hbo := by
  unfold implicitAbort; repeat' (first | rfl | split | simp)
@[simp] theorem implicitAbort_scales (sh : Shot) : (implicitAbort sh s).scales = s.scales := by
  unfold implicitAbort; repeat' (first | rfl | split | simp)
@[simp] theorem implicitAbort_dmi (sh : Shot) : (implicitAbort sh s).dmi = s.dmi := by
  unfold implicitAbort; repeat' (first | rfl | split | simp)
@[simp] theorem implicitAbort_freeCount (sh : Shot) : (implicitAbort sh s).freeCount = s.freeCount := by
  unfold implicitAbort; repeat' (first | rfl | split | simp)
@[simp] theorem implicitAbort_pending (sh : Shot) : (implicitAbort sh s).pending = s.pending := by
  unfold implicitAbort; repeat' (first | rfl | split | simp)

@[simp] theorem pressOpened_clock (sh : Shot) : (pressOpened sh s).clock = s.clock := by
  unfold pressOpened; repeat' (first | rfl | split | simp)
@[simp] theorem pressOpened_msq (sh : Shot) : (pressOpened sh s).msq = s.msq := by
  unfold pressOpened; repeat' (first | rfl | split | simp)
@[simp] theorem pressOpened_zct (sh : Shot) : (pressOpened sh s).zct = s.zct := by
  unfold pressOpened; repeat' (first | rfl | split | simp)
@[simp] theorem pressOpened_hbo (sh : Shot) : (pressOpened sh s).hbo = s.hbo := by
  unfold pressOpened; repeat' (first | rfl | split | simp)
@[simp] theorem pressOpened_scales (sh : Shot) : (pressOpened sh s).scales = s.scales := by
  unfold pressOpened; repeat' (first | rfl | split | simp)
@[simp] theorem pressOpened_ltr (sh : Shot) : (pressOpened sh s).ltr = s.ltr := by
  unfold pressOpened; repeat' (first | rfl | split | simp)
@[simp] theorem pressOpened_hrg (sh : Shot) : (pressOpened sh s).hrg = s.hrg := by
  unfold pressOpened; repeat' (first | rfl | split | simp)
@[simp] theorem pressOpened_freeCount (sh : Shot) : (pressOpened sh s).freeCount = s.freeCount := by
  unfold pressOpened; repeat' (first | rfl | split | simp)
@[simp] theorem pressOpened_pending (sh : Shot) : (pressOpened sh s).pending = s.pending := by
  unfold pressOpened; repeat' (first | rfl | split | simp)

@[simp] theorem clearProduction_clock : (clearProduction s).clock = s.clock := by
  unfold clearProduction; repeat' (first | rfl | split | simp)
@[simp] theorem clearProduction_msq : (clearProduction s).msq = s.msq := by
  unfold clearProduction; repeat' (first | rfl | split | simp)
@[simp] theorem clearProduction_hbo : (clearProduction s).hbo = s.hbo := by
  unfold clearProduction; repeat' (first | rfl | split | simp)
@[simp] theorem clearProduction_scales : (clearProduction s).scales = s.scales := by
  unfold clearProduction; repeat' (first | rfl | split | simp)
@[simp] theorem clearProduction_freeCount : (clearProduction s).freeCount = s.freeCount := by
  unfold clearProduction; repeat' (first | rfl | split | simp)
@[simp] theorem clearProduction_pending : (clearProduction s).pending = s.pending := by
  unfold clearProduction; repeat' (first | rfl | split | simp)

@[simp] theorem takeLock_clock : (takeLock s).clock = s.clock := by
  unfold takeLock; repeat' (first | rfl | split | simp)
@[simp] theorem takeLock_msq : (takeLock s).msq = s.msq := by
  unfold takeLock; repeat' (first | rfl | split | simp)
@[simp] theorem takeLock_zct : (takeLock s).zct = s.zct := by
  unfold takeLock; repeat' (first | rfl | split | simp)
@[simp] theorem takeLock_hbo : (takeLock s).hbo = s.hbo := by
  unfold takeLock; repeat' (first | rfl | split | simp)
@[simp] theorem takeLock_scales : (takeLock s).scales = s.scales := by
  unfold takeLock; repeat' (first | rfl | split | simp)
@[simp] theorem takeLock_ltr : (takeLock s).ltr = s.ltr := by
  unfold takeLock; repeat' (first | rfl | split | simp)
@[simp] theorem takeLock_hrg : (takeLock s).hrg = s.hrg := by
  unfold takeLock; repeat' (first | rfl | split | simp)
@[simp] theorem takeLock_freeCount : (takeLock s).freeCount = s.freeCount := by
  unfold takeLock; repeat' (first | rfl | split | simp)
@[simp] theorem takeLock_pending : (takeLock s).pending = s.pending := by
  unfold takeLock; repeat' (first | rfl | split | simp)

@[simp] theorem flagUntaken_clock (f : CavityFlags → CavityFlags) : (flagUntaken f s).clock = s.clock := by
  unfold flagUntaken; repeat' (first | rfl | split)
@[simp] theorem flagUntaken_msq (f : CavityFlags → CavityFlags) : (flagUntaken f s).msq = s.msq := by
  unfold flagUntaken; repeat' (first | rfl | split)
@[simp] theorem flagUntaken_zct (f : CavityFlags → CavityFlags) : (flagUntaken f s).zct = s.zct := by
  unfold flagUntaken; repeat' (first | rfl | split)
@[simp] theorem flagUntaken_hbo (f : CavityFlags → CavityFlags) : (flagUntaken f s).hbo = s.hbo := by
  unfold flagUntaken; repeat' (first | rfl | split)
@[simp] theorem flagUntaken_scales (f : CavityFlags → CavityFlags) : (flagUntaken f s).scales = s.scales := by
  unfold flagUntaken; repeat' (first | rfl | split)
@[simp] theorem flagUntaken_ltr (f : CavityFlags → CavityFlags) : (flagUntaken f s).ltr = s.ltr := by
  unfold flagUntaken; repeat' (first | rfl | split)
@[simp] theorem flagUntaken_dmi (f : CavityFlags → CavityFlags) : (flagUntaken f s).dmi = s.dmi := by
  unfold flagUntaken; repeat' (first | rfl | split)
@[simp] theorem flagUntaken_hrg (f : CavityFlags → CavityFlags) : (flagUntaken f s).hrg = s.hrg := by
  unfold flagUntaken; repeat' (first | rfl | split)
@[simp] theorem flagUntaken_ports (f : CavityFlags → CavityFlags) : (flagUntaken f s).ports = s.ports := by
  unfold flagUntaken; repeat' (first | rfl | split)
@[simp] theorem flagUntaken_freeCount (f : CavityFlags → CavityFlags) : (flagUntaken f s).freeCount = s.freeCount := by
  unfold flagUntaken; repeat' (first | rfl | split)
@[simp] theorem flagUntaken_pending (f : CavityFlags → CavityFlags) : (flagUntaken f s).pending = s.pending := by
  unfold flagUntaken; repeat' (first | rfl | split)

@[simp] theorem reclaim_clock : (reclaim s).clock = s.clock := by
  unfold reclaim; repeat' (first | rfl | split | simp)
@[simp] theorem reclaim_msq : (reclaim s).msq = s.msq := by
  unfold reclaim; repeat' (first | rfl | split | simp)
@[simp] theorem reclaim_zct : (reclaim s).zct = s.zct := by
  unfold reclaim; repeat' (first | rfl | split | simp)
@[simp] theorem reclaim_hbo : (reclaim s).hbo = s.hbo := by
  unfold reclaim; repeat' (first | rfl | split | simp)
@[simp] theorem reclaim_scales : (reclaim s).scales = s.scales := by
  unfold reclaim; repeat' (first | rfl | split | simp)
@[simp] theorem reclaim_ltr : (reclaim s).ltr = s.ltr := by
  unfold reclaim; repeat' (first | rfl | split | simp)
@[simp] theorem reclaim_hrg : (reclaim s).hrg = s.hrg := by
  unfold reclaim; repeat' (first | rfl | split | simp)
@[simp] theorem reclaim_freeCount : (reclaim s).freeCount = s.freeCount := by
  unfold reclaim; repeat' (first | rfl | split | simp)
@[simp] theorem reclaim_pending : (reclaim s).pending = s.pending := by
  unfold reclaim; repeat' (first | rfl | split | simp)

@[simp] theorem engage_clock (sh : Shot) (d : Demould) : (engage sh d s).clock = s.clock := by
  unfold engage; repeat' (first | rfl | split)
@[simp] theorem engage_msq (sh : Shot) (d : Demould) : (engage sh d s).msq = s.msq := by
  unfold engage; repeat' (first | rfl | split)
@[simp] theorem engage_zct (sh : Shot) (d : Demould) : (engage sh d s).zct = s.zct := by
  unfold engage; repeat' (first | rfl | split)
@[simp] theorem engage_hbo (sh : Shot) (d : Demould) : (engage sh d s).hbo = s.hbo := by
  unfold engage; repeat' (first | rfl | split)
@[simp] theorem engage_scales (sh : Shot) (d : Demould) : (engage sh d s).scales = s.scales := by
  unfold engage; repeat' (first | rfl | split)
@[simp] theorem engage_ltr (sh : Shot) (d : Demould) : (engage sh d s).ltr = s.ltr := by
  unfold engage; repeat' (first | rfl | split)
@[simp] theorem engage_shc (sh : Shot) (d : Demould) : (engage sh d s).shc = s.shc := by
  unfold engage; repeat' (first | rfl | split)
@[simp] theorem engage_hrg (sh : Shot) (d : Demould) : (engage sh d s).hrg = s.hrg := by
  unfold engage; repeat' (first | rfl | split)
@[simp] theorem engage_freeCount (sh : Shot) (d : Demould) : (engage sh d s).freeCount = s.freeCount := by
  unfold engage; repeat' (first | rfl | split)
@[simp] theorem engage_pending (sh : Shot) (d : Demould) : (engage sh d s).pending = s.pending := by
  unfold engage; repeat' (first | rfl | split)

@[simp] theorem endWindow_clock : (endWindow s).clock = s.clock := by
  unfold endWindow; repeat' (first | rfl | split | simp)
@[simp] theorem endWindow_msq : (endWindow s).msq = s.msq := by
  unfold endWindow; repeat' (first | rfl | split | simp)
@[simp] theorem endWindow_zct : (endWindow s).zct = s.zct := by
  unfold endWindow; repeat' (first | rfl | split | simp)
@[simp] theorem endWindow_hbo : (endWindow s).hbo = s.hbo := by
  unfold endWindow; repeat' (first | rfl | split | simp)
@[simp] theorem endWindow_scales : (endWindow s).scales = s.scales := by
  unfold endWindow; repeat' (first | rfl | split | simp)
@[simp] theorem endWindow_ltr : (endWindow s).ltr = s.ltr := by
  unfold endWindow; repeat' (first | rfl | split | simp)
@[simp] theorem endWindow_hrg : (endWindow s).hrg = s.hrg := by
  unfold endWindow; repeat' (first | rfl | split | simp)
@[simp] theorem endWindow_freeCount : (endWindow s).freeCount = s.freeCount := by
  unfold endWindow; repeat' (first | rfl | split | simp)
@[simp] theorem endWindow_pending : (endWindow s).pending = s.pending := by
  unfold endWindow; repeat' (first | rfl | split | simp)

@[simp] theorem countShot_clock : (countShot s).clock = s.clock := by
  unfold countShot; repeat' (first | rfl | split)
@[simp] theorem countShot_msq : (countShot s).msq = s.msq := by
  unfold countShot; repeat' (first | rfl | split)
@[simp] theorem countShot_zct : (countShot s).zct = s.zct := by
  unfold countShot; repeat' (first | rfl | split)
@[simp] theorem countShot_hbo : (countShot s).hbo = s.hbo := by
  unfold countShot; repeat' (first | rfl | split)
@[simp] theorem countShot_scales : (countShot s).scales = s.scales := by
  unfold countShot; repeat' (first | rfl | split)
@[simp] theorem countShot_ltr : (countShot s).ltr = s.ltr := by
  unfold countShot; repeat' (first | rfl | split)
@[simp] theorem countShot_dmi : (countShot s).dmi = s.dmi := by
  unfold countShot; repeat' (first | rfl | split)
@[simp] theorem countShot_hrg : (countShot s).hrg = s.hrg := by
  unfold countShot; repeat' (first | rfl | split)
@[simp] theorem countShot_ports : (countShot s).ports = s.ports := by
  unfold countShot; repeat' (first | rfl | split)
@[simp] theorem countShot_freeCount : (countShot s).freeCount = s.freeCount := by
  unfold countShot; repeat' (first | rfl | split)
@[simp] theorem countShot_pending : (countShot s).pending = s.pending := by
  unfold countShot; repeat' (first | rfl | split)

@[simp] theorem grantOpen_clock : (grantOpen s).clock = s.clock := by
  unfold grantOpen; repeat' (first | rfl | split)
@[simp] theorem grantOpen_msq : (grantOpen s).msq = s.msq := by
  unfold grantOpen; repeat' (first | rfl | split)
@[simp] theorem grantOpen_zct : (grantOpen s).zct = s.zct := by
  unfold grantOpen; repeat' (first | rfl | split)
@[simp] theorem grantOpen_hbo : (grantOpen s).hbo = s.hbo := by
  unfold grantOpen; repeat' (first | rfl | split)
@[simp] theorem grantOpen_scales : (grantOpen s).scales = s.scales := by
  unfold grantOpen; repeat' (first | rfl | split)
@[simp] theorem grantOpen_ltr : (grantOpen s).ltr = s.ltr := by
  unfold grantOpen; repeat' (first | rfl | split)
@[simp] theorem grantOpen_dmi : (grantOpen s).dmi = s.dmi := by
  unfold grantOpen; repeat' (first | rfl | split)
@[simp] theorem grantOpen_hrg : (grantOpen s).hrg = s.hrg := by
  unfold grantOpen; repeat' (first | rfl | split)
@[simp] theorem grantOpen_freeCount : (grantOpen s).freeCount = s.freeCount := by
  unfold grantOpen; repeat' (first | rfl | split)
@[simp] theorem grantOpen_pending : (grantOpen s).pending = s.pending := by
  unfold grantOpen; repeat' (first | rfl | split)

@[simp] theorem declareCure_clock : (declareCure s).clock = s.clock := by
  unfold declareCure; repeat' (first | rfl | split | simp)
@[simp] theorem declareCure_msq : (declareCure s).msq = s.msq := by
  unfold declareCure; repeat' (first | rfl | split | simp)
@[simp] theorem declareCure_zct : (declareCure s).zct = s.zct := by
  unfold declareCure; repeat' (first | rfl | split | simp)
@[simp] theorem declareCure_hbo : (declareCure s).hbo = s.hbo := by
  unfold declareCure; repeat' (first | rfl | split | simp)
@[simp] theorem declareCure_scales : (declareCure s).scales = s.scales := by
  unfold declareCure; repeat' (first | rfl | split | simp)
@[simp] theorem declareCure_ltr : (declareCure s).ltr = s.ltr := by
  unfold declareCure; repeat' (first | rfl | split | simp)
@[simp] theorem declareCure_dmi : (declareCure s).dmi = s.dmi := by
  unfold declareCure; repeat' (first | rfl | split | simp)
@[simp] theorem declareCure_hrg : (declareCure s).hrg = s.hrg := by
  unfold declareCure; repeat' (first | rfl | split | simp)
@[simp] theorem declareCure_freeCount : (declareCure s).freeCount = s.freeCount := by
  unfold declareCure; repeat' (first | rfl | split | simp)
@[simp] theorem declareCure_pending : (declareCure s).pending = s.pending := by
  unfold declareCure; repeat' (first | rfl | split | simp)

@[simp] theorem finishSecond_clock : (finishSecond s).clock = s.clock := by
  simp [finishSecond]
@[simp] theorem finishSecond_msq : (finishSecond s).msq = s.msq := by
  simp [finishSecond]
@[simp] theorem finishSecond_hbo : (finishSecond s).hbo = s.hbo := by
  simp [finishSecond]
@[simp] theorem finishSecond_hrg : (finishSecond s).hrg = s.hrg := by
  simp [finishSecond]
@[simp] theorem finishSecond_freeCount : (finishSecond s).freeCount = s.freeCount := by
  simp [finishSecond]
@[simp] theorem finishSecond_pending : (finishSecond s).pending = s.pending := by
  simp [finishSecond]

@[simp] theorem collectUpTo_clock (n : Nat) : (collectUpTo n s).clock = s.clock := by
  unfold collectUpTo; repeat' (first | rfl | split | simp)
@[simp] theorem collectUpTo_msq (n : Nat) : (collectUpTo n s).msq = s.msq := by
  unfold collectUpTo; repeat' (first | rfl | split | simp)
@[simp] theorem collectUpTo_zct (n : Nat) : (collectUpTo n s).zct = s.zct := by
  unfold collectUpTo; repeat' (first | rfl | split | simp)
@[simp] theorem collectUpTo_hbo (n : Nat) : (collectUpTo n s).hbo = s.hbo := by
  unfold collectUpTo; repeat' (first | rfl | split | simp)
@[simp] theorem collectUpTo_scales (n : Nat) : (collectUpTo n s).scales = s.scales := by
  unfold collectUpTo; repeat' (first | rfl | split | simp)
@[simp] theorem collectUpTo_ltr (n : Nat) : (collectUpTo n s).ltr = s.ltr := by
  unfold collectUpTo; repeat' (first | rfl | split | simp)
@[simp] theorem collectUpTo_shc (n : Nat) : (collectUpTo n s).shc = s.shc := by
  unfold collectUpTo; repeat' (first | rfl | split | simp)
@[simp] theorem collectUpTo_dmi (n : Nat) : (collectUpTo n s).dmi = s.dmi := by
  unfold collectUpTo; repeat' (first | rfl | split | simp)
@[simp] theorem collectUpTo_freeCount (n : Nat) : (collectUpTo n s).freeCount = s.freeCount := by
  unfold collectUpTo; repeat' (first | rfl | split | simp)
@[simp] theorem collectUpTo_pending (n : Nat) : (collectUpTo n s).pending = s.pending := by
  unfold collectUpTo; repeat' (first | rfl | split | simp)

@[simp] theorem endHeld_clock (p : Port) : (endHeld p s).clock = s.clock := by
  unfold endHeld; repeat' (first | rfl | split | simp)
@[simp] theorem endHeld_msq (p : Port) : (endHeld p s).msq = s.msq := by
  unfold endHeld; repeat' (first | rfl | split | simp)
@[simp] theorem endHeld_zct (p : Port) : (endHeld p s).zct = s.zct := by
  unfold endHeld; repeat' (first | rfl | split | simp)
@[simp] theorem endHeld_hbo (p : Port) : (endHeld p s).hbo = s.hbo := by
  unfold endHeld; repeat' (first | rfl | split | simp)
@[simp] theorem endHeld_scales (p : Port) : (endHeld p s).scales = s.scales := by
  unfold endHeld; repeat' (first | rfl | split | simp)
@[simp] theorem endHeld_ltr (p : Port) : (endHeld p s).ltr = s.ltr := by
  unfold endHeld; repeat' (first | rfl | split | simp)
@[simp] theorem endHeld_hrg (p : Port) : (endHeld p s).hrg = s.hrg := by
  unfold endHeld; repeat' (first | rfl | split | simp)
@[simp] theorem endHeld_freeCount (p : Port) : (endHeld p s).freeCount = s.freeCount := by
  unfold endHeld; repeat' (first | rfl | split | simp)
@[simp] theorem endHeld_pending (p : Port) : (endHeld p s).pending = s.pending := by
  unfold endHeld; repeat' (first | rfl | split | simp)

end Sys2Proof.Machine
end

