-- ==== Sys2Proof/Laws/Ops.lean ====
section
/-! SUPPORT. What each shared operation does, said once: the taking of a transaction, 32-bit figures, notices, the held close,
the lock, the history ring's comparison, the bytes read back, the return of a charge, and the lots of sealed records. -/

namespace Sys2Proof.Machine

/-! ### Equal states -/

/-- Two states with equal fields are equal. -/
theorem State.eq_of_fields {s t : State} (clock : s.clock = t.clock) (msq : s.msq = t.msq) (zct : s.zct = t.zct)
    (hbo : s.hbo = t.hbo) (scales : s.scales = t.scales) (ltr : s.ltr = t.ltr) (shc : s.shc = t.shc)
    (dmi : s.dmi = t.dmi) (hrg : s.hrg = t.hrg) (ports : s.ports = t.ports) (freeCount : s.freeCount = t.freeCount)
    (pending : s.pending = t.pending) : s = t := by
  cases s; cases t; simp_all

/-! ### Ports -/

@[simp] theorem Ports.get_modify_self (ps : Ports) (p : Port) (f : PortState → PortState) :
    (ps.modify p f).get p = f (ps.get p) := by
  cases p <;> rfl

theorem Ports.get_modify_ne (ps : Ports) {p q : Port} (f : PortState → PortState) (h : q ≠ p) :
    (ps.modify p f).get q = ps.get q := by
  cases p <;> cases q <;> first | rfl | exact absurd rfl h

@[simp] theorem State.modifyPort_get_self (s : State) (p : Port) (f : PortState → PortState) :
    (s.modifyPort p f).ports.get p = f (s.ports.get p) :=
  Ports.get_modify_self ..

theorem State.modifyPort_get_ne (s : State) {p q : Port} (f : PortState → PortState) (h : q ≠ p) :
    (s.modifyPort p f).ports.get q = s.ports.get q :=
  Ports.get_modify_ne _ _ h

/-! ### Taking a transaction -/

/-- An answer is the reply word of the statements, for the turnaround in force. -/
theorem answer_eq_replied (s t : State) (p : Port) (a : Answer) :
    answer p (s.ports.get p).turnaround a t = s.replied p a t := rfl

/-- Only the trace port can be in held fetch. -/
theorem State.inHeldFetch_of_ne (s : State) {p : Port} (h : p ≠ .trace) : s.inHeldFetch p = false := by
  cases p <;> first | rfl | exact absurd rfl h

theorem State.inHeldFetch_trace (s : State) (h : s.ports.heldFetch = none) (p : Port) : s.inHeldFetch p = false := by
  simp [State.inHeldFetch, h]

/-- A permitted request outside held fetch: its owner decides it. -/
theorem transact_taken (s : State) {p : Port} {c : Command} (f : State → State × Answer)
    (free : s.inHeldFetch p = false) (permitted : c.permitted p = true) :
    transact p c f s = s.replied p (f s).2 (f s).1 := by
  simp [transact, free, permitted, answer_eq_replied]

/-- A request on a port that may not ask it. -/
theorem transact_refused (s : State) {p : Port} {c : Command} (f : State → State × Answer)
    (free : s.inHeldFetch p = false) (permitted : c.permitted p = false) :
    transact p c f s = s.replied p (.bare .notPermitted) s := by
  simp [transact, free, permitted, answer_eq_replied]

/-- A request on the trace port in held fetch: its command byte is a count. -/
theorem transact_counted (s : State) {p : Port} (c : Command) (f : State → State × Answer) (held : s.inHeldFetch p = true) :
    transact p c f s = takeCount c.row.byte s := by
  simp [transact, held]

/-! ### 32-bit figures -/

theorem fitWord_of_le {n : Nat} (s : State) (h : n ≤ Config.maxWord) : fitWord n s = (n, s) := by
  simp [fitWord, h]

/-- What a 32-bit figure is, whether or not it fits. -/
theorem fitWord_fits (n : Nat) (s : State) : Fits32 n s.freeCount (fitWord n s).1 (fitWord n s).2.freeCount := by
  intro h; simp [fitWord_of_le s h]

/-- A 32-bit figure changes nothing but the counter of free values. -/
theorem fitWord_state (n : Nat) (s : State) : (fitWord n s).2 = { s with freeCount := (fitWord n s).2.freeCount } := by
  unfold fitWord; split <;> rfl

/-! ### Notices -/

@[simp] theorem PortState.join_newest (q : PortState) (n : Notice) : (q.join n).notices.getLast? = some n := by
  unfold PortState.join; split <;> simp

/-- A notice just set is its port's newest. -/
theorem setNotice_newest (p : Port) (b : NoticeBody) (s : State) : (setNotice p b s).Newest p b := by
  simp [State.Newest, setNotice]

@[simp] theorem setNotice_get_self (p : Port) (b : NoticeBody) (s : State) :
    (setNotice p b s).ports.get p = (s.ports.get p).join ⟨b, s.clock⟩ := by
  simp [setNotice]

theorem setNotice_get_ne {p q : Port} (b : NoticeBody) (s : State) (h : q ≠ p) :
    (setNotice p b s).ports.get q = s.ports.get q :=
  State.modifyPort_get_ne _ _ h

/-- Notices set at one port change nothing but the ports. -/
theorem State.told_eq (s : State) (p : Port) (bs : List NoticeBody) : s.told p bs = { s with ports := (s.told p bs).ports } := by
  induction bs generalizing s with
  | nil => rfl
  | cons b bs ih => exact (ih (setNotice p b s)).trans rfl

/-- Notices set at the press port change no other field of the ports. -/
theorem State.told_press_ports (s : State) (bs : List NoticeBody) :
    (s.told .press bs).ports = { s.ports with press := (s.told .press bs).ports.press } := by
  induction bs generalizing s with
  | nil => rfl
  | cons b bs ih => exact (ih (setNotice .press b s)).trans rfl

/-- Notices set one after another are set in two goes alike. -/
theorem State.told_append (s : State) (p : Port) (as bs : List NoticeBody) :
    s.told p (as ++ bs) = (s.told p as).told p bs := by
  simp [State.told]

/-- Several notices set at a port leave the other ports alone. -/
theorem State.told_get_ne {p q : Port} (bs : List NoticeBody) (s : State) (h : q ≠ p) :
    (s.told p bs).ports.get q = s.ports.get q :=
  foldl_keeps (fun t : State => t.ports.get q) _ _ _ fun _ _ => setNotice_get_ne _ _ h

/-- Several notices set at a port, as the port's own work: they join one after another. -/
theorem State.told_get_self (p : Port) (bs : List NoticeBody) (s : State) :
    (s.told p bs).ports.get p = bs.foldl (fun q b => q.join ⟨b, s.clock⟩) (s.ports.get p) := by
  induction bs generalizing s with
  | nil => rfl
  | cons b bs ih => exact (ih (setNotice p b s)).trans (by simp)

/-- Notices joining one port's work look at that port and the clock alone. -/
theorem State.told_get_congr {s t : State} (p : Port) (bs : List NoticeBody) (port : s.ports.get p = t.ports.get p)
    (clock : s.clock = t.clock) : (s.told p bs).ports.get p = (t.told p bs).ports.get p := by
  rw [State.told_get_self, State.told_get_self, port, clock]

/-- A notice set keeps what joins it, up to its room (R171). -/
theorem PortState.join_suffix (q : PortState) (n : Notice) {l : List Notice} (h : l <:+ q.notices)
    (room : l.length < Config.noticeRoom) : l ++ [n] <:+ (q.join n).notices := by
  obtain ⟨old, e⟩ := h
  unfold PortState.join
  split
  · exact ⟨old, by simp [← e]⟩
  · cases old with
    | nil => rename_i full; rw [List.nil_append] at e; exact absurd (e ▸ room) full
    | cons a old => exact ⟨old, by simp [← e]⟩

/-- The notices set by one event, up to the room of the set, are the newest ones, in their order (R171). -/
theorem State.told_suffix (p : Port) (bs : List NoticeBody) (s : State) (room : bs.length ≤ Config.noticeRoom) :
    bs.map (⟨·, s.clock⟩) <:+ ((s.told p bs).ports.get p).notices := by
  rw [State.told_get_self]
  induction bs using List.reverseRecOn with
  | nil => simp
  | append_singleton bs b ih =>
    simp only [List.length_append, List.length_singleton] at room
    simpa using PortState.join_suffix _ ⟨b, s.clock⟩ (ih (by omega)) (by simpa using by omega)

/-- A notice joining a set bounded by 32 leaves it so (R171). -/
theorem PortState.join_length (q : PortState) (n : Notice) (h : q.notices.length ≤ Config.noticeRoom) :
    (q.join n).notices.length ≤ Config.noticeRoom := by
  unfold PortState.join
  split
  · simp_all
  · simp_all [Config.noticeRoom]
    omega

/-! ### The held close and the lock -/

@[simp] theorem endClose_none {s : State} (why : CloseOutcome) (h : s.shc.heldClose = none) : endClose why s = s := by
  simp [endClose, h]

theorem endClose_some {s : State} {h : HeldClose} (why : CloseOutcome) (held : s.shc.heldClose = some h) :
    endClose why s = setNotice .press (.closeEnded h.shot why)
      { s with shc := { s.shc with heldClose := none }, ports := { s.ports with closeOutcome := some why } } := by
  simp [endClose, held]

/-- Without a held close there is nothing to examine (R110). -/
@[simp] theorem reexamine_none {s : State} (h : s.shc.heldClose = none) : reexamine s = s := by
  simp [reexamine, h]

/-- What examining a held close can do: end it with a refusal, grant it, or leave it (R110). -/
theorem reexamine_cases (s : State) :
    reexamine s = s ∨
      (∃ h a why, s.shc.heldClose = some h ∧ s.closeRefusal = some (a, why) ∧ reexamine s = endClose why s) ∨
      ∃ h sh, s.shc.heldClose = some h ∧ s.closeRefusal = none ∧ s.holdMet = true ∧ s.shc.assembling = some sh ∧
        reexamine s = setNotice .press (.closeGranted h.shot) (grantClose s) := by
  cases hc : s.shc.heldClose with
  | none => exact .inl (reexamine_none hc)
  | some h =>
    cases hr : s.closeRefusal with
    | some x => exact .inr (.inl ⟨h, x.1, x.2, rfl, by simp, by simp [reexamine, hc, hr]⟩)
    | none =>
      by_cases hm : s.holdMet = true
      · cases ha : s.shc.assembling with
        | none => simp [State.closeRefusal, ha] at hr
        | some sh => exact .inr (.inr ⟨h, sh, rfl, by simp, hm, by simp, by simp [reexamine, hc, hr, hm]⟩)
      · exact .inl (by simp [reexamine, hc, hr, hm])

/-- The lock after the press's hold is released (R138). -/
theorem releasePress_dmi (s : State) : (releasePress s).dmi = s.dmi.pressReleased := by
  unfold releasePress Dmi.pressReleased
  split
  · split <;> simp_all
  · rfl

/-! ### The history ring -/

/-- The comparison with the low-water mark (R154). -/
theorem compareLow_hrg (s : State) :
    (compareLow s).hrg = { s.hrg with below := decide (s.available < s.hrg.lowMark) } := by
  unfold compareLow; dsimp only; split <;> rfl

theorem compareLow_quiet {s : State} (h : s.hrg.lowMark ≤ s.available ∨ s.hrg.below = true) :
    compareLow s = { s with hrg := { s.hrg with below := decide (s.available < s.hrg.lowMark) } } := by
  unfold compareLow
  rcases h with h | h
  · simp [Nat.not_lt.mpr h]
  · simp [h]

theorem compareLow_low {s : State} (h : s.available < s.hrg.lowMark) (b : s.hrg.below = false) :
    compareLow s = setNotice .trace (.historyLow s.available s.newest s.oldest)
      (setNotice .press (.historyLow s.available s.newest s.oldest) { s with hrg := { s.hrg with below := true } }) := by
  unfold compareLow; simp [h, b]

/-- The available count looks at the slots and the write position alone (R153). -/
theorem State.available_congr {s t : State} (slots : t.hrg.slots = s.hrg.slots) (pos : t.hrg.writePos = s.hrg.writePos) :
    t.available = s.available := by
  simp [State.available, slots, pos]

@[simp] theorem compareLow_available (s : State) : (compareLow s).available = s.available :=
  State.available_congr (by rw [compareLow_hrg]) (by rw [compareLow_hrg])

@[simp] theorem compareLow_newlyLow (s : State) (b : Bool) : (compareLow s).newlyLow b = s.newlyLow b := by
  have n : (compareLow s).newest = s.newest := by simp [State.newest, compareLow_hrg]
  have o : (compareLow s).oldest = s.oldest := by simp [State.oldest, n]
  have m : (compareLow s).hrg.lowMark = s.hrg.lowMark := by rw [compareLow_hrg]
  simp [State.newlyLow, n, o, m]

/-- All that the comparison of the available count with the low-water mark can do (R154). -/
theorem compareLow_eq (s : State) : compareLow s = { s with
    hrg := { s.hrg with below := decide (s.available < s.hrg.lowMark) }
    ports := { s.ports with
      press := (s.told .press (s.newlyLow s.hrg.below)).ports.press
      trace := (s.told .trace (s.newlyLow s.hrg.below)).ports.trace } } := by
  unfold compareLow State.newlyLow
  by_cases h : s.available < s.hrg.lowMark ∧ s.hrg.below = false
  · simp [h]; rfl
  · rw [if_neg h, if_neg]
    · rfl
    · simpa using h

/-- The comparison leaves its own finding (R154). -/
theorem compareLow_compared (s : State) : (compareLow s).LowCompared := by
  simp [State.LowCompared, compareLow_hrg]

/-! ### Lots -/

/-- The one lot of `releaseLot` (R79). -/
theorem releaseLot_lots (id : Nat) (s : State) :
    (releaseLot id s).ltr.lots = s.ltr.lots.map fun l =>
      if l.id = id ∧ s.lotInUse l = false then { l with lastSeen := s.clock } else l := by
  simp only [releaseLot, State.modifyLot]
  apply List.map_congr_left
  intro l _
  by_cases h : l.id = id <;> by_cases u : s.lotInUse l = true <;> simp_all

/-- Whether a lot is in use depends on the scales and the entry alone (R79). -/
theorem State.lotInUse_congr {s t : State} (h : s.scales = t.scales) (l : Lot) : s.lotInUse l = t.lotInUse l := by
  simp [State.lotInUse, State.currentScale, State.armed, h]

/-- Being in use does not look at when an entry was last seen (R79). -/
theorem State.lotInUse_seen (s : State) (l : Lot) (n : Nat) : s.lotInUse { l with lastSeen := n } = s.lotInUse l := rfl

/-- Being in use, with the reference count taken apart (R79). -/
theorem State.lotInUse_mk (s : State) (id material deadline lastScale lastSeen refs : Nat) :
    s.lotInUse ⟨id, material, deadline, lastScale, lastSeen, refs⟩ =
      (decide (0 < refs) || ((s.currentScale id).isSome || s.armed id)) := by
  simp [State.lotInUse, Bool.or_assoc]

/-- The one lot of `lowerRef` (R85). -/
theorem lowerRef_lots (id : Nat) (s : State) :
    (lowerRef id s).ltr.lots = s.ltr.lots.map fun l =>
      if l.id = id then
        if s.lotInUse { l with refs := l.refs - 1 } = false then { l with refs := l.refs - 1, lastSeen := s.clock }
        else { l with refs := l.refs - 1 }
      else l := by
  rw [lowerRef, releaseLot_lots]
  simp only [State.modifyLot, List.map_map]
  apply List.map_congr_left
  intro l _
  by_cases h : l.id = id
  · simp only [Function.comp, h, if_true, true_and]
    rfl
  · simp [h]

/-- The lots after the plies of a sealed record have left them (R79, R85). -/
theorem lowerRefs_lots (plies : List Ply) (s : State) :
    (lowerRefs plies s).ltr.lots = s.lotsAfter plies none s.ltr.lots := by
  induction plies generalizing s with
  | nil => simp [lowerRefs, State.lotsAfter]
  | cons p rest ih =>
    have : lowerRefs (p :: rest) s = lowerRefs rest (lowerRef p.lot s) := rfl
    rw [this, ih]
    simp only [State.lotsAfter, lowerRef_lots, List.map_map]
    apply List.map_congr_left
    rintro ⟨id, material, deadline, lastScale, lastSeen, refs⟩ _
    have hs : (lowerRef p.lot s).scales = s.scales := rfl
    have hc : (lowerRef p.lot s).clock = s.clock := rfl
    simp only [Function.comp, State.lotInUse_congr hs, hc, List.countP_cons, State.lotInUse_mk]
    generalize hu : ((s.currentScale id).isSome || s.armed id) = u
    by_cases h : id = p.lot
    · subst h
      generalize hn : List.countP (fun q : Ply => q.lot == p.lot) rest = n
      cases u <;> by_cases hr : refs ≤ 1 <;> by_cases hz : refs ≤ n + 1 <;> by_cases h0 : n = 0 <;>
        simp [hu, hn, hr, hz, h0] <;> omega
    · have h' : (p.lot == id) = false := by simp [Ne.symm h]
      simp [h, h', hu]

/-! ### Operands -/

/-- A setup value at the nearer limit of its range (0.6). -/
theorem clampNat_eq_nearest {lo hi : Nat} (v : Nat) (h : lo ≤ hi) : clampNat lo hi v = nearest lo hi v := by
  unfold clampNat nearest; split_ifs <;> omega

/-- A setup value was clamped exactly where it was out of its range (0.6). -/
theorem clampNat_ne_iff {lo hi : Nat} (v : Nat) (h : lo ≤ hi) : clampNat lo hi v ≠ v ↔ ¬ (lo ≤ v ∧ v ≤ hi) := by
  unfold clampNat; omega

/-- An identifier operand in its range (0.6). -/
theorem inRange_ofNat {n : Nat} (k : Fin n) (h : n ≤ 256) : inRange n (BitVec.ofNat 8 k.val) = some k := by
  have : k.val % 256 = k.val := Nat.mod_eq_of_lt (by omega)
  simp [inRange, this]

/-- An identifier operand out of its range (0.6). -/
theorem inRange_none {n : Nat} (b : BitVec 8) (h : n ≤ b.toNat) : inRange n b = none := by
  simp [inRange, h]

/-! ### Settling -/

/-- A bound on a running maximum. -/
theorem foldl_max_le (l : List Int) (a b : Int) : l.foldl max a ≤ b ↔ a ≤ b ∧ ∀ x ∈ l, x ≤ b := by
  induction l generalizing a with
  | nil => simp
  | cons x xs ih => simp [ih, and_assoc]

/-- A bound on a running minimum. -/
theorem le_foldl_min (l : List Int) (a b : Int) : b ≤ l.foldl min a ↔ b ≤ a ∧ ∀ x ∈ l, b ≤ x := by
  induction l generalizing a with
  | nil => simp
  | cons x xs ih => simp [ih, and_assoc]

/-- The spread of a window is within a band exactly where every difference of its weights is (R60). -/
theorem spread_le (ws : List Int) (band : Nat) :
    spread ws ≤ (band : Int) ↔ ∀ x ∈ ws, ∀ y ∈ ws, x - y ≤ (band : Int) := by
  cases ws with
  | nil => simp [spread]
  | cons w rest =>
    have top := (foldl_max_le rest w (rest.foldl max w)).1 le_rfl
    have low := (le_foldl_min rest w (rest.foldl min w)).1 le_rfl
    simp only [spread, List.forall_mem_cons]
    constructor
    · intro h
      exact ⟨⟨by omega, fun y hy => by have := low.2 y hy; omega⟩,
        fun x hx => ⟨by have := top.2 x hx; omega, fun y hy => by have := top.2 x hx; have := low.2 y hy; omega⟩⟩
    · rintro ⟨hw, hr⟩
      have : rest.foldl max w ≤ rest.foldl min w + band := by
        rw [foldl_max_le]
        refine ⟨?_, fun x hx => ?_⟩
        · have : w - band ≤ rest.foldl min w := (le_foldl_min ..).2 ⟨by omega, fun y hy => by have := hw.2 y hy; omega⟩
          omega
        · have : x - band ≤ rest.foldl min w :=
            (le_foldl_min ..).2 ⟨by have := (hr x hx).1; omega, fun y hy => by have := (hr x hx).2 y hy; omega⟩
          omega
      omega

/-- A window with an unusable entry is not steady (R60). -/
theorem steady_unusable {w : List Sample} (b : Nat) {e : Sample} (h : e ∈ w) (u : e.usable = false) : steady w b = false := by
  have : w.all (fun e => e.usable) = false := by
    rw [List.all_eq_false]; exact ⟨e, h, by simp [u]⟩
  simp [steady, this]

theorem mem_pushSample (w : List Sample) (e : Sample) : e ∈ pushSample w e := by unfold pushSample; split <;> simp

/-- An unusable entry joins the window and sets the steady run to 0 (R59, R60). -/
theorem Scale.joinWindow_unusable (x : Scale) {e : Sample} (u : e.usable = false) :
    x.joinWindow e = { x with window := pushSample x.window e, steadyRun := 0 } := by
  simp [Scale.joinWindow, steady_unusable x.band (mem_pushSample _ _) u]

/-- No scale settles at an unusable entry (R60). -/
theorem Scale.joinWindow_unsettled (x : Scale) {e : Sample} (u : e.usable = false) : (x.joinWindow e).settled = false := by
  simp [Scale.settled, Scale.joinWindow, steady_unusable x.band (mem_pushSample _ _) u]

/-- A sample without an OK status reaches a scale in TARING or CAPTURING: the live reading follows it, it joins the window as an
unusable entry, the steady run is 0, and nothing settles (R57 to R60). -/
theorem deliver_unusable (k : Fin 2) (a : Arrival) (s : State)
    (busy : (s.scales.get k).state = .taring ∨ (s.scales.get k).state = .capturing) (bad : ∀ r, a ≠ .ok r) :
    let x := s.scales.get k
    let weight := if x.state = .taring then none else some (x.reading a).1
    deliver k a s = { s with scales := s.scales.set k { x.observe a with
      window := pushSample x.window ⟨a.raw, weight.map Int.ofNat, false⟩, steadyRun := 0 } } := by
  intro x weight
  have same : ∀ y : Scale, y.withReference a = y ∧ y.tareEntry a = ⟨a.raw, none, false⟩ := by
    intro y
    cases a with
    | ok r => exact absurd rfl (bad r)
    | _ => exact ⟨by unfold Scale.withReference; split <;> simp_all, rfl⟩
  have entry : (s.scales.get k).captureEntry a = ⟨a.raw, some ((s.scales.get k).reading a).1, false⟩ := by
    cases a with
    | ok r => exact absurd rfl (bad r)
    | _ => rfl
  have quiet : ∀ w, (((s.scales.get k).observe a).joinWindow ⟨a.raw, w, false⟩).settled = false :=
    fun w => Scale.joinWindow_unsettled _ rfl
  have joined : ∀ w, ((s.scales.get k).observe a).joinWindow ⟨a.raw, w, false⟩ =
      { (s.scales.get k).observe a with window := pushSample x.window ⟨a.raw, w, false⟩, steadyRun := 0 } :=
    fun w => Scale.joinWindow_unusable _ rfl
  rcases busy with h | h
  · simp only [deliver, h, State.modifyScale, same, Table.get_modify_self, quiet, Bool.false_eq_true, if_false]
    simp [Table.modify, joined, weight, x, h]
  · simp only [deliver, h, State.modifyScale, entry, Table.get_modify_self, quiet, Bool.false_eq_true, if_false]
    simp [Table.modify, joined, entry, weight, x, h]

/-! ### The bytes read back -/

/-- A select period returns as many bytes as are clocked (R167). -/
@[simp] theorem Reply.selectPeriod_length (r : Reply) (sent clocked : Nat) :
    (r.selectPeriod sent clocked).length = clocked := by
  simp [Reply.selectPeriod]

/-- Every byte of a select period: filler for the command, its operands and the turnaround, the status byte, the reply fields,
and filler beyond them (R167, R179, R180). -/
theorem Reply.selectPeriod_getElem? (r : Reply) (sent : Nat) {clocked i : Nat} (h : i < clocked) :
    (r.selectPeriod sent clocked)[i]? = some
      (if i < sent + r.turnaround then filler
      else if i = sent + r.turnaround then BitVec.ofNat 8 r.status.code
      else r.fields.getD (i - (sent + r.turnaround + 1)) filler) := by
  have e : be 1 r.status.code = [BitVec.ofNat 8 r.status.code] := by simp [be]
  simp only [Reply.selectPeriod, Reply.frame, List.getElem?_map, List.getElem?_range h, Option.map_some, e]
  congr 1
  rw [← List.append_assoc, ← List.append_assoc, List.replicate_append_replicate]
  split
  · rename_i h1
    simp [List.getD, List.getElem?_append, h1]
  · rename_i h1
    split
    · rename_i h2
      simp [List.getD, h2]
    · have h3 : i - (sent + r.turnaround) = i - (sent + r.turnaround + 1) + 1 := by omega
      simp [List.getD, List.getElem?_append, h1, h3]

/-! ### Returning a staged charge -/

/-- The state in which a staged charge returns to the rack (R94). -/
theorem State.returnState_returnsAs (s : State) (r : RackRecord) : s.ReturnsAs r (s.returnState r) := by
  refine ⟨fun h => by simp [State.returnState, h], fun h n => ?_, fun h n => ?_, fun h => ?_⟩
  · have : s.expiring r = true := by
      rcases e : r.state with _ | ⟨c, q, late⟩ | _ <;> simp_all [State.expiring]
    simp [State.returnState, this]
  · have : s.expiring r = false := by
      rcases n with e | ⟨c, q, e⟩ <;> simp [State.expiring, e]
    simp [State.returnState, this, h]
  · simp [State.returnState, State.expiring, h.not_gt, h.ne]

/-! ### The immediate scrap -/

/-- The ring after an immediate scrap (R152, R157). -/
theorem scrapNow_sealed (r : ScrapRecord) (s : State) : s.hrg.SealedNext (scrapNow r s).hrg (.scrap r) := by
  simp [Hrg.SealedNext, scrapNow, compareLow_hrg, issue]

/-- The lots after an immediate scrap (R85, R157). -/
theorem scrapNow_lots (r : ScrapRecord) (s : State) : (scrapNow r s).ltr.lots = s.lotsAfter r.plies none s.ltr.lots := by
  have e : (scrapNow r s).ltr = (lowerRefs r.plies (issue (fun q => .sealed q (.scrap r)) s)).ltr := by
    simp [scrapNow]
  rw [e, lowerRefs_lots]
  rfl

/-- The ports after an immediate scrap: RECORDS_READY, then the comparison's HISTORY_LOW (R154, R157; log entry 17). -/
theorem scrapNow_ports (r : ScrapRecord) (s : State) : (scrapNow r s).ports = { s.ports with
    press := (s.told .press ((scrapNow r s).newlyLow s.hrg.below)).ports.press
    trace := (s.told .trace ([.scrapRecords [s.hrg.nextSeq]] ++ (scrapNow r s).newlyLow s.hrg.below)).ports.trace } := by
  generalize hu : readyScraps [s.hrg.nextSeq] (lowerRefs r.plies (issue (fun q => .sealed q (.scrap r)) s)) = u
  have e : scrapNow r s = compareLow u := by rw [← hu]; rfl
  have hp : u.ports = (setNotice .trace (.scrapRecords [s.hrg.nextSeq]) s).ports := by
    subst hu; simp [readyScraps, setNotice, State.modifyPort, issue]
  have hc : u.clock = s.clock := by subst hu; simp [issue]
  have hb : u.hrg.below = s.hrg.below := by subst hu; simp [issue]
  have press := State.told_get_congr .press (u.newlyLow u.hrg.below) (s := u) (t := s) (by rw [hp]; rfl) hc
  have trace := State.told_get_congr .trace (u.newlyLow u.hrg.below) (s := u)
    (t := setNotice .trace (.scrapRecords [s.hrg.nextSeq]) s) (by rw [hp]) hc
  simp only [Ports.get] at press trace
  rw [e, compareLow_newlyLow, compareLow_eq, press, trace, hp, hb, State.told_append]
  rfl

end Sys2Proof.Machine
end

