-- ==== Sys2Proof/Laws/Boundary.lean ====
section
/-! SUPPORT. What a frame boundary does, said once: the stages of a zone that decide its mode, the zones that enter FAULT, the
notices, and the re-examination of a held close. -/

namespace Sys2Proof.Machine

/-! ### A zone at a boundary -/

/-- Leaving FAULT, a zone is in AUTO or MANUAL (R22). -/
theorem Zone.leaveFault_mode (x : Zone) (f : FaultInfo) : (x.leaveFault f).mode ≠ .fault := by
  unfold Zone.leaveFault; split <;> simp

/-- A zone that a boundary's first stages leave in FAULT was in FAULT, with no mode change pending and no clear accepted
(R18, R19, R22). -/
theorem Zone.settle_fault (x : Zone) :
    x.settle.mode = .fault ↔ x.mode = .fault ∧ x.pendingMode = none ∧ x.cleared = false := by
  have e : x.takeSetup.mode = x.mode ∧ x.takeSetup.pendingMode = x.pendingMode ∧ x.takeSetup.fault = x.fault ∧
      x.takeSetup.frames = x.frames := by
    unfold Zone.takeSetup; split <;> simp
  obtain ⟨e1, e2, e3, -⟩ := e
  generalize hy : x.takeSetup = y at e1 e2 e3
  have c : (y.countManual.mode = .fault ↔ y.mode = .fault) ∧ y.countManual.pendingMode = y.pendingMode ∧
      y.countManual.fault = y.fault := by
    unfold Zone.countManual
    split
    · rename_i hm _ _
      split <;> simp [hm]
    · simp
  generalize hw : y.countManual = w at c
  have m : w.takeMode.mode = .fault ↔ w.mode = .fault ∧ w.pendingMode = none ∧ w.cleared = false := by
    unfold Zone.takeMode Zone.cleared
    cases hp : w.pendingMode with
    | some m => cases m <;> simp [Zone.change]
    | none =>
      cases hm : w.mode with
      | fault =>
        cases hf : w.fault with
        | none => simp [hm, hf]
        | some f => cases hc : f.clearAccepted <;> simp [hm, hf, hc, Zone.leaveFault_mode]
      | _ => simp [hm]
  have k : x.settle.mode = w.takeMode.mode := by simp [Zone.settle, Zone.takeSetpoint, hy, hw]
  simp only [k, m, c, e1, e2, e3, Zone.cleared]

/-- The integrator stage keeps the mode (R18). -/
@[simp] theorem Zone.integrate_mode (x : Zone) (j : Judged) (m : Int) (cut : Bool) : (x.integrate j m cut).mode = x.mode := by
  unfold Zone.integrate; split <;> rfl

/-- The stages after the watch keep the mode (R18). -/
theorem Zone.boundary_mode (x : Zone) (j : Judged) (m : Int) (band now : Nat) :
    (x.boundary j m band now).mode = (x.settle.watch j m now).mode := by
  unfold Zone.boundary Zone.markReady Zone.computeDemand
  simp only []
  split <;> (try split) <;> simp [Zone.withDemand]

/-- A zone after the whole of a boundary's work (R18). -/
theorem State.finalZones_get (s : State) (z : Fin 12) :
    s.finalZones.get z = ((s.zct.zones.get z).boundary (s.judged z) (s.msq.tc.get z).value s.zct.readyBand s.clock).integrate
      (s.judged z) (s.msq.tc.get z).value (s.boundaryShare z).cut := by
  simp [State.finalZones, State.boundaryZones]

/-! ### The boundary -/

/-- The zones that enter FAULT at a boundary, by their records before and after it (R21). -/
theorem State.faultingZones_eq (s : State) :
    s.faultingZones = (List.finRange 12).filter fun z => (s.zct.zones.get z).entersFault (s.finalZones.get z) := by
  unfold State.faultingZones
  apply List.filter_congr
  intro z _
  have k := Zone.settle_fault (s.zct.zones.get z)
  simp only [State.finalZones_get, Zone.entersFault, Zone.integrate_mode, Zone.boundary_mode, Zone.cleared] at k ⊢
  rw [Bool.and_comm]
  congr 1
  rw [Bool.eq_iff_iff]
  cases hp : (s.zct.zones.get z).pendingMode <;> simp [k, hp, imp_iff_not_or]

/-- Whether a mode or a READY mark has changed (R28). -/
theorem zonesChanged_iff (before after : Table Zone 12) :
    zonesChanged before after = true ↔
      ∃ z, (after.get z).mode ≠ (before.get z).mode ∨ (after.get z).ready ≠ (before.get z).ready := by
  simp only [zonesChanged, List.any_eq_true, List.mem_finRange, true_and, Bool.or_eq_true, bne_iff_ne]
  simp only [ne_comm]

/-- A pulse that is a boundary does the boundary's work, and after a loss sets MAINS first (R48, R51). -/
theorem pulse_boundary {s : State} (h : s.PulseIsBoundary) :
    pulse s = frameBoundary (if s.hbo.mains = .lost then
      setNotice .press (.mains .present) { s with hbo := { s.hbo with mains := .present } } else s) := by
  rcases e : s.hbo.mains with _ | _
  · rcases h with h | h
    · rw [h] at e; cases e
    · cases p : s.hbo.position with
      | none => simp [pulse, e, p]
      | some n => simp [pulse, e, p, h n p]
  · simp [pulse, mainsReturn, e]

/-- The notices of a boundary's faults are notices at the press port. -/
theorem faultNotices_eq (zs : List (Fin 12)) (s : State) :
    faultNotices zs s = s.told .press (zs.map fun z => .zoneFault z.val) := by
  simp [faultNotices, State.told, List.foldl_map]

/-- The THROTTLE notice of a boundary, where its throttle state changes (R46). -/
def State.throttleTold (s : State) : List NoticeBody :=
  if s.boundaryThrottle ≠ s.hbo.throttle then [.throttle s.boundaryThrottle s.effectiveBudget s.boundaryRequest] else []

/-- The state a boundary leaves before a held close is examined: the figures loaded and the notices set (R18, R21, R39, R46). -/
def State.boundaryLoaded (s : State) : State :=
  { loadBoundary s with
    ports := { s.ports with
      press := (s.told .press (s.faultingZones.map (fun z => .zoneFault z.val) ++ s.throttleTold)).ports.press
      trace := (s.told .trace s.throttleTold).ports.trace } }

/-- What a boundary does: it loads its figures, sets its notices, and has a held close examined again exactly where the throttle
state, a mode or a READY mark has changed (R18, R28, R39, R46, R110). -/
theorem frameBoundary_eq (s : State) :
    frameBoundary s =
      if s.boundaryThrottle ≠ s.hbo.throttle ∨ zonesChanged s.zct.zones s.finalZones = true then reexamine s.boundaryLoaded
      else s.boundaryLoaded := by
  have told (bs : List NoticeBody) :
      (loadBoundary s).told .press bs =
        { loadBoundary s with ports := { s.ports with press := (s.told .press bs).ports.press } } := by
    rw [State.told_eq, State.told_press_ports]
    have a := State.told_get_self .press bs (loadBoundary s)
    have b := State.told_get_self .press bs s
    simp only [Ports.get] at a b
    rw [a, b]
    rfl
  have key : (if s.boundaryThrottle ≠ s.hbo.throttle then throttleNotices (faultNotices s.faultingZones (loadBoundary s))
      else faultNotices s.faultingZones (loadBoundary s)) = s.boundaryLoaded := by
    unfold State.boundaryLoaded State.throttleTold
    rw [faultNotices_eq, told]
    generalize (s.faultingZones.map fun z => NoticeBody.zoneFault z.val) = bs
    split
    · rw [State.told_append, State.told_eq s .press bs]
      rfl
    · rw [List.append_nil]
      rfl
  simp only [← key, frameBoundary, Bool.or_eq_true, decide_eq_true_eq]

end Sys2Proof.Machine
end

