-- ==== Sys2Proof/Laws/Ring.lean ====
section
/-! SUPPORT. The available count and the low-water comparison through the sealing, the voiding and the aborting of reserved slots
(R153, R154, R156, R157). -/

namespace Sys2Proof.Machine

/-- The ports after a shot's charges are sealed as SCRAP: RECORDS_READY at the trace port (R118, R157). -/
theorem scrapShot_ports (sh : Shot) (s : State) :
    (scrapShot sh s).ports = { s.ports with trace := (s.told .trace sh.readyScraps).ports.trace } := by
  generalize hu : (heldCavities sh.enabled).foldl (fun st x => scrapCavity .shotAborted sh.number x.1 x.2 st) s = u
  have hp : u.ports = s.ports := by
    subst hu; exact foldl_keeps State.ports _ _ _ fun _ _ => by unfold scrapCavity; split <;> simp
  have hc : u.clock = s.clock := by
    subst hu; exact foldl_keeps State.clock _ _ _ fun _ _ => by simp
  have e : scrapShot sh s = readyScraps (sealSequences sh.enabled) u := by rw [← hu]; rfl
  rw [e]
  unfold readyScraps Shot.readyScraps
  by_cases h : sealSequences sh.enabled = []
  · simp [h, hp]; rfl
  · simp [h, setNotice, State.modifyPort, hp, hc, Ports.modify, State.told]

/-- The available count looks only at whether each slot may be reused (R153). -/
theorem State.available_of_reusable {s t : State} (pos : t.hrg.writePos = s.hrg.writePos)
    (same : ∀ i, (t.hrg.slots.get i).reusable = (s.hrg.slots.get i).reusable) : t.available = s.available := by
  have m : t.hrg.slots.toList.map Slot.reusable = s.hrg.slots.toList.map Slot.reusable := by
    apply List.ext_getElem (by simp [t.hrg.slots.size_eq, s.hrg.slots.size_eq])
    intro i h1 h2
    simpa [Table.get] using same ⟨i, by simpa [t.hrg.slots.size_eq] using h1⟩
  have key : ∀ l : List Slot, (l.takeWhile Slot.reusable).length = ((l.map Slot.reusable).takeWhile id).length := by
    intro l; simp [List.takeWhile_map]
  simp only [State.available, key, List.map_append, List.map_drop, List.map_take, m, pos]

/-- More entries that pass give no shorter a run of passing ones. -/
theorem length_takeWhile_mono {α : Type} (p : α → Bool) (l m : List α) (len : l.length = m.length)
    (h : ∀ i (h1 : i < l.length) (h2 : i < m.length), p l[i] = true → p m[i] = true) :
    (l.takeWhile p).length ≤ (m.takeWhile p).length := by
  induction l generalizing m with
  | nil => simp
  | cons a l ih =>
    cases m with
    | nil => simp at len
    | cons b m =>
      have h0 := h 0 (by simp) (by simp)
      by_cases pa : p a = true
      · have pb : p b = true := h0 pa
        simp only [List.takeWhile_cons, pa, pb, if_true, List.length_cons]
        have := ih m (by simpa using len) (fun i h1 h2 => h (i+1) (by simpa using h1) (by simpa using h2))
        omega
      · simp [List.takeWhile_cons, pa]

/-- Slots that become reusable do not lower the available count (R153). -/
theorem State.available_mono {s t : State} (pos : t.hrg.writePos = s.hrg.writePos)
    (h : ∀ i, (s.hrg.slots.get i).reusable = true → (t.hrg.slots.get i).reusable = true) : s.available ≤ t.available := by
  have key : ∀ i (h1 : i < s.hrg.slots.toList.length) (h2 : i < t.hrg.slots.toList.length),
      s.hrg.slots.toList[i].reusable = true → t.hrg.slots.toList[i].reusable = true := by
    intro i h1 h2 h3
    simpa [Table.get] using h ⟨i, by simpa [s.hrg.slots.size_eq] using h1⟩ (by simpa [Table.get] using h3)
  simp only [State.available, pos]
  apply length_takeWhile_mono
  · simp [s.hrg.slots.size_eq, t.hrg.slots.size_eq]
  · intro i h1 h2 h3
    rw [List.getElem_append] at h3 ⊢
    simp only [List.length_drop, s.hrg.slots.size_eq, t.hrg.slots.size_eq, List.getElem_drop, List.getElem_take] at h3 ⊢
    split at h3
    · rename_i h4; rw [dif_pos h4]; exact key _ _ _ h3
    · rename_i h4; rw [dif_neg h4]; exact key _ _ _ h3

/-- A reserved slot made reusable does not lower the available count (R153, R156). -/
theorem replaceReserved_available_mono (q : Nat) {c : Slot} (s : State) (hc : c.reusable = true) :
    s.available ≤ (replaceReserved q c s).available := by
  unfold replaceReserved
  split
  · refine State.available_mono (s := s) (t := { s with hrg := { s.hrg with slots := s.hrg.slots.set (slotOf q) c } }) rfl ?_
    intro i h
    simp only [Table.get_set]
    split <;> simp_all
  · exact le_rfl

/-- A slot made VOID sets no HISTORY_LOW where the last comparison's finding holds (R154, R156). -/
theorem voidSlot_ports (q : Nat) {s : State} (h : s.LowCompared) : (voidSlot q s).ports = s.ports := by
  have m := replaceReserved_available_mono q s (c := .void q) rfl
  unfold voidSlot
  rw [compareLow_quiet]
  · simp
  · have e : (replaceReserved q (.void q) s).hrg.lowMark = s.hrg.lowMark := by unfold replaceReserved; split <;> rfl
    have e2 : (replaceReserved q (.void q) s).hrg.below = s.hrg.below := by unfold replaceReserved; split <;> rfl
    rw [e, e2, h]
    by_cases x : s.available < s.hrg.lowMark
    · right; simp [x]
    · left; omega

/-- The finding of the last comparison is about the ring alone (R154). -/
theorem State.LowCompared.congr {s t : State} (a : s.LowCompared) (h : s.hrg = t.hrg) : t.LowCompared := by
  unfold State.LowCompared at *
  rw [← h, a, State.available_congr (s := s) (t := t) (by rw [h]) (by rw [h])]

/-- A return in an abort keeps the comparison's finding and sets no notice (R94, R154). -/
theorem returnCavity_low (k : Fin 4) {s : State} (h : s.LowCompared) :
    (returnCavity k s).LowCompared ∧ (returnCavity k s).ports = s.ports := by
  unfold returnCavity
  split
  · exact ⟨h, rfl⟩
  · unfold returnStaged
    have a : ∀ s1 : State, s1.hrg = s.hrg → s1.ports = s.ports → ∀ q,
        (voidSlot q s1).LowCompared ∧ (voidSlot q s1).ports = s.ports := by
      intro s1 h1 h2 q
      exact ⟨compareLow_compared _, (voidSlot_ports q (h.congr h1.symm)).trans h2⟩
    exact a ((s.modifyRack _ _).modifyAssembling _) rfl rfl _

/-- The returns of an abort, one after another (R118, R154). -/
theorem foldl_returnCavity_low (l : List (Fin 4)) {s : State} (h : s.LowCompared) :
    (l.foldl (fun st k => returnCavity k st) s).LowCompared ∧
      (l.foldl (fun st k => returnCavity k st) s).ports = s.ports := by
  induction l generalizing s with
  | nil => exact ⟨h, rfl⟩
  | cons k l ih =>
    obtain ⟨a, b⟩ := returnCavity_low k h
    obtain ⟨c, d⟩ := ih a
    exact ⟨c, d.trans b⟩

/-- A record sealed into its reserved slot leaves the available count (R157). -/
@[simp] theorem sealReserved_available (q : Nat) (r : Record) (s : State) : (sealReserved q r s).available = s.available := by
  unfold sealReserved replaceReserved
  split
  · rename_i h
    refine State.available_of_reusable (s := s) 
      (t := { s with hrg := { s.hrg with slots := s.hrg.slots.set (slotOf q) (.sealed q r) } }) rfl ?_
    intro i
    simp only [Table.get_set]
    split <;> simp_all [Slot.reusable]
  · rfl
/-- A charge sealed as SCRAP keeps the comparison's finding (R154, R157). -/
theorem scrapCavity_low (cause : ScrapCause) (n : Nat) (k : Fin 4) (c : Cavity) {s : State} (h : s.LowCompared) :
    (scrapCavity cause n k c s).LowCompared := by
  unfold scrapCavity
  split
  · refine State.LowCompared.congr ?_ (lowerRefs_hrg _ _).symm
    unfold State.LowCompared
    rw [sealReserved_available]
    unfold sealReserved replaceReserved; split <;> exact h
  · exact h

/-- A shot's charges sealed as SCRAP keep the comparison's finding (R154, R157). -/
theorem scrapShot_low (sh : Shot) {s : State} (h : s.LowCompared) : (scrapShot sh s).LowCompared := by
  have : ∀ (l : List (Fin 4 × Cavity)) (s : State), s.LowCompared →
      (l.foldl (fun st x => scrapCavity .shotAborted sh.number x.1 x.2 st) s).LowCompared := by
    intro l
    induction l with
    | nil => exact fun _ h => h
    | cons x l ih => exact fun s h => ih _ (scrapCavity_low _ _ _ _ h)
  exact (this (heldCavities sh.enabled) s h).congr (by simp only [scrapShot, readyScraps_hrg])

/-- The ports after the abort of the assembling shot: the end of its held close, RECORDS_READY and SHOT_ABORTED; its returns set
no HISTORY_LOW where the last comparison's finding holds, which holds again after it (R111, R118, R154, R157). -/
theorem abortAssembling_ports (sh : Shot) (reason : CloseOutcome) {s : State} (h : s.LowCompared) :
    (abortAssembling sh reason s).LowCompared ∧ (abortAssembling sh reason s).ports = { s.ports with
      press := (s.told .press (s.shc.heldClose.toList.map fun h => .closeEnded h.shot reason)).ports.press
      closeOutcome := if s.shc.heldClose.isSome then some reason else s.ports.closeOutcome
      trace := (s.told .trace sh.readyScraps).ports.trace
      handler := (s.told .handler [.shotAborted sh.number]).ports.handler } := by
  have h1 : (endClose reason s).LowCompared := h.congr (by simp)
  obtain ⟨a, b⟩ := foldl_returnCavity_low sh.stagedCavities h1
  have c := scrapShot_low sh a
  constructor
  · exact c.congr (by simp [abortAssembling, setNotice, State.modifyPort])
  · simp only [abortAssembling, entryFreed_ports]
    generalize hu : List.foldl (fun st k => returnCavity k st) (endClose reason s) sh.stagedCavities = u at *
    have hc : u.clock = s.clock := by
      subst hu; rw [foldl_keeps State.clock _ _ _ (fun _ _ => by simp)]; simp
    have e : (setNotice .handler (.shotAborted sh.number) (scrapShot sh u)).ports =
        { (scrapShot sh u).ports with handler := (scrapShot sh u).ports.handler.join ⟨.shotAborted sh.number, u.clock⟩ } := by
      simp [setNotice, State.modifyPort, Ports.modify]
    show (setNotice .handler (.shotAborted sh.number) (scrapShot sh u)).ports = _
    rw [e, scrapShot_ports]
    have ep : (endClose reason s).ports = { s.ports with 
      press := (s.told .press (s.shc.heldClose.toList.map fun h => .closeEnded h.shot reason)).ports.press
      closeOutcome := if s.shc.heldClose.isSome then some reason else s.ports.closeOutcome } := by
      cases hh : s.shc.heldClose with
      | none => simp [endClose_none _ hh]; rfl
      | some x => simp [endClose_some _ hh]; rfl
    have et := State.told_get_congr .trace sh.readyScraps (s := u) (t := s) (by rw [b, ep]; rfl) hc
    simp only [Ports.get] at et
    rw [et, b, ep, hc]
    rfl

end Sys2Proof.Machine
end

