-- ==== Sys2Proof/Tests/Slice0.lean ====
section
/-! SUPPORT. Tests: the checks of WellFormed, transactions written out byte by byte from Table 11.3, single commands whose
results the handbook's worked cases give, and one witness theorem for each statement with hypotheses. Expected figures
come from the spec's tables and worked sequences. -/

namespace Sys2Proof.Tests

open Sys2Proof Sys2Proof.Machine

-- One theorem after another: every proof here is a kernel evaluation, and a thread for each would cost more than it saves.
set_option Elab.async false

/-! ### Small states -/

/-- The state a command leaves. -/
def after (i : Instr) (s : State) : State :=
  match exec i s with
  | .next t => t
  | .fault _ => s
  | .refused _ => s

/-- What a command is answered: status and fields. -/
def said (p : Port) (i : Instr) (s : State) : Option (Status × List Nat) :=
  (((after i s).ports.get p).reply).map fun r => (r.status, r.fields.map BitVec.toNat)

/-- The rate table of 7.10. -/
def rates : Table Breakpoint 8 :=
  ⟨[⟨1200, 0⟩, ⟨1300, 20⟩, ⟨1400, 45⟩, ⟨1500, 80⟩, ⟨1600, 120⟩, ⟨1700, 160⟩, ⟨1800, 190⟩, ⟨1900, 200⟩], rfl⟩

/-- The recipe of the worked sequences (4.12, 7.10, 7.11): two cavities of group 1, with U0, U1, L0, L1 and U3, U4, L3, L4. -/
def recipe : Recipe :=
  { mouldId := 4410, revision := 3, cavityCount := 2
    cavities := ⟨[⟨1, 0x0C3⟩, ⟨1, 0x618⟩, ⟨0, 0⟩, ⟨0, 0⟩], rfl⟩
    groups := ⟨[⟨0, 0, 0⟩, ⟨25000, 150, 100⟩, ⟨0, 0, 0⟩, ⟨0, 0, 0⟩], rfl⟩
    setpoints := Table.replicate 12 1500, cureTarget := 9000, overCure := 11000, rates := rates
    bumpCount := 2, demouldWindow := 40, outTime := 45, loadMargin := 120, takeLimit := 2, blindLimit := 5 }

/-- The same recipe as WRITE RECIPE's operands spell it. -/
def body : RecipeBody :=
  { mouldId := 4410, revision := 3, cavityCount := 2
    groupOf := ⟨[1, 1, 0, 0], rfl⟩, maskOf := ⟨[0x0C3, 0x618, 0, 0], rfl⟩
    groups := ⟨[⟨0, 0, 0⟩, ⟨25000, 150, 100⟩, ⟨0, 0, 0⟩, ⟨0, 0, 0⟩], rfl⟩
    setpoints := Table.replicate 12 1500, cureTarget := 9000, overCure := 11000
    rates := ⟨[⟨1200, 0⟩, ⟨1300, 20⟩, ⟨1400, 45⟩, ⟨1500, 80⟩, ⟨1600, 120⟩, ⟨1700, 160⟩, ⟨1800, 190⟩, ⟨1900, 200⟩], rfl⟩
    bumpCount := 2, demouldWindow := 40, outTime := 45, loadMargin := 120, takeLimit := 2, blindLimit := 5 }

/-- A station with that mould mounted, at run-second 3,618. -/
def mounted : State :=
  { State.reset with
    clock := 3618
    shc := { State.reset.shc with recipes := (State.reset.shc.recipes).set 2 (some recipe), mounted := some 2 } }

/-- The charge of 4.12, closed at 3,618 with an out-time of 45 minutes. -/
def charge : Charge :=
  { id := 31, mouldId := 4410, revision := 3, group := 1, plies := [⟨12751, 5120⟩, ⟨12235, 5120⟩], total := 24986
    start := 3600, lastPly := 3615, close := 3618, outDeadline := 6318 }

/-- Lot 5120, with the two plies of that charge. -/
def lot : Lot :=
  { id := 5120, material := 7, deadline := 100000, lastScale := 0, lastSeen := 3000, refs := 2 }

/-- The session of 4.12 after its second ply. -/
def session : Session :=
  { mouldId := 4410, revision := 3, group := 1, target := 25000, lowTol := 150, highTol := 100, start := 3600
    chargeId := some 31, plies := [⟨⟨12751, 5120⟩, 3606⟩, ⟨⟨12235, 5120⟩, 3615⟩], total := 24986, cls := some .accept
    armedLot := none }

/-- The session before its first ply. -/
def session0 : Session :=
  { session with chargeId := none, plies := [], total := 0, cls := none }

/-- Scale 0 of 4.12, IDLE: gain, tare and current lot. -/
def scale : Scale :=
  { Scale.reset with gain := 6554, zero := 120000, tareTime := some 3400, currentLot := some 5120 }

/-- The station with scale 0 as given, and lot 5120 declared. -/
def weighing (x : Scale) : State :=
  { mounted with
    scales := State.reset.scales.set 0 x
    ltr := { mounted.ltr with lots := [lot] } }

/-- Scale 0 with a session OPEN. -/
def scaleOpen (e : Session) : Scale :=
  { scale with state := .opened, session := some e }

/-- Scale 0 CAPTURING at the fourteenth sample of 4.12: the window holds the last eight weights but the newest. -/
def scaleCapturing : Scale :=
  { scale with
    state := .capturing, deadline := some 3628, steadyRun := 7
    session := some { session0 with armedLot := some 5120 }
    window := [12750, 12749, 12751, 12752, 12750, 12751, 12751, 12750].map fun w => ⟨some 0, some w, true⟩ }

/-- Scale 0 TARING, one sample short of settling on eight counts around 120,000. -/
def scaleTaring : Scale :=
  { scale with
    state := .taring, deadline := some 3628, steadyRun := 7, reference := some 120000
    window := [0, 0, 0, 0, 0, 0, 0, 0].map fun w => ⟨some 120000, some w, true⟩ }

/-- A rack record of that charge. -/
def record (st : RackState) : RackRecord :=
  { charge := charge, position := 0, state := st }

/-- A cavity that holds the charge in a phase of its life. -/
def cavity (st : CavityState) : Cavity :=
  { Cavity.fresh with
    state := st, chargeId := some 31, sequence := some 1, charge := some charge, loadTime := some 3618 }

/-- A cavity as it stands while its part cures. -/
def cavityCuring : Cavity :=
  { cavity .curing with
    station := some 12, part := some 1, attempts := some 0
    cure := some { Cure.start with index := 8811, seconds := 137, minT := some 1388, maxT := some 1460, throttled := 4 } }

/-- A shot with one enabled cavity, cavity 0. -/
def shot (ph : Phase) (c : Cavity) : Shot :=
  { number := 17, slot := 2, mouldId := 4410, revision := 3, phase := ph, bumps := 2
    times := { armed := some 3000, closeGrant := none, closing := none, cureStart := none, cured := none
               opening := if ph = .opened then some 3610 else none }
    cavities := ⟨[some c, none, none, none], rfl⟩ }

/-- The ring with its first slot as given and two numbers issued. -/
def ring (x : Slot) : Hrg :=
  { Hrg.reset with slots := Hrg.reset.slots.set 0 x, writePos := 1, nextSeq := 2 }

/-- Every zone in a mode, READY or not. -/
def zonesIn (m : ZoneMode) (ready : Bool) : Zct :=
  { Zct.reset with zones := Table.replicate 12 { Zone.reset with mode := m, ready := ready } }

/-- The station with an assembling shot of one cavity, the slot of sequence 1 RESERVED, and a rack. -/
def assembling (c : Cavity) (h : Holder) (rack : List RackRecord) : State :=
  { mounted with
    shc := { mounted.shc with assembling := some (shot .assembling c), shotCounter := 18 }
    dmi := { mounted.dmi with holder := h }
    ltr := { mounted.ltr with rack := rack, lots := [lot] }
    zct := zonesIn .auto true
    hrg := ring (.reserved 1) }

/-- The station with cavity 0 LOADED and everything a close asks for. -/
def readyToClose : State :=
  assembling (cavity .loaded) .free []

/-- The given state with a close held for shot 17. -/
def closeHeld (s : State) : State :=
  { s with shc := { s.shc with heldClose := some ⟨17, 3600⟩ } }

/-- The station with a press-side shot of one cavity in a phase. -/
def pressSide (ph : Phase) (c : Cavity) (h : Holder) : State :=
  { mounted with
    shc := { mounted.shc with press := some (shot ph c), shotCounter := 18, partCounter := 1, station := 12 }
    dmi := { mounted.dmi with holder := h }
    ltr := { mounted.ltr with lots := [lot] }
    hrg := ring (.reserved 1) }

/-- The station with a shot in OPEN and its demould state. -/
def demoulding (c : Cavity) (d : Demould) (h : Holder) : State :=
  let s := pressSide .opened c h
  { s with dmi := { s.dmi with demould := some d } }

/-- A demould state after one ejection under ENGAGED. -/
def engagedOnce : Demould :=
  { engaged := true, grant := false, heldEject := false, count := 1, engageMark := 0, deadline := 3650, lateGiven := false }

/-- The heat budget of 3.12, with mains PRESENT at the last position of its frame. -/
def budget : Hbo :=
  { Hbo.reset with baseBudget := 12000, mains := .present, position := some 99 }

/-- A zone of 3.12 in MANUAL with its demand and power, which no reading disturbs. -/
def manualZone (demand power : Nat) : Zone :=
  { Zone.reset with
    mode := .manual, frames := some .continuous, manualDemand := demand, active := { Zone.reset.active with power := power } }

/-- The four zones of 3.12, as demands that nothing else moves, at a boundary with a shot curing on U0 and L0. -/
def shortBudget : State :=
  let s := pressSide .curing cavityCuring .press
  { s with
    hbo := budget
    msq := { s.msq with tc := Table.replicate 12 ⟨1000, .ok, 3618, some 3618, true⟩ }
    shc := { s.shc with recipes := s.shc.recipes.set 2 (some { recipe with
      cavities := ⟨[⟨1, 0x041⟩, ⟨1, 0x618⟩, ⟨0, 0⟩, ⟨0, 0⟩], rfl⟩ }) }
    zct := { s.zct with zones := Table.ofFn fun z =>
      if z = 0 then manualZone 800 4000 else if z = 6 then manualZone 900 4000
      else if z = 3 then manualZone 1000 5000 else if z = 9 then manualZone 700 5000 else Zone.reset } }

/-! ### The checks of WellFormed -/

theorem test_wellFormed_refuses_thermocouple_channel_12 : (Instr.thermocoupleResult 12 .ok 0).wellFormed = false := by decide

theorem test_wellFormed_takes_thermocouple_channel_11 : (Instr.thermocoupleResult 11 .ok 0).wellFormed = true := by decide

theorem test_wellFormed_refuses_load_cell_channel_2 : (Instr.loadCellResult 2 .ok 0).wellFormed = false := by decide

theorem test_wellFormed_takes_load_cell_channel_1 : (Instr.loadCellResult 1 .ok 0).wellFormed = true := by decide

theorem test_wellFormed_refuses_known_byte_as_unknown : (Instr.unknownCommand .press 62).wellFormed = false := by decide

theorem test_wellFormed_takes_unknown_byte : (Instr.unknownCommand .press 63).wellFormed = true := by decide

theorem test_wellFormed_refuses_lot_0 : (Instr.lotAged 0).wellFormed = false := by decide

theorem test_wellFormed_refuses_charge_0 : (Instr.chargeExpired 0).wellFormed = false := by decide

/-! ### Transactions, byte by byte from Table 11.3 -/

/-- SET GAIN (11): scale 0, K = 6554 = 0x199A (4.12). -/
theorem test_parse_set_gain :
    parseTransaction false .charge [11, 0, 0x19, 0x9A] = some (.setGain .charge 0 6554) := by decide +kernel

/-- BUDGET SETUP (9): base 12,000 W = 0x00002EE0, hysteresis 100, frame 120 (3.13). -/
theorem test_parse_budget_setup :
    parseTransaction false .press [9, 0, 0, 0x2E, 0xE0, 0, 100, 0, 120] = some (.budgetSetup .press 12000 100 120) := by
  decide +kernel

/-- ZONE MODE (5): zone 3, mode 2, demand 500, 0 frames. -/
theorem test_parse_zone_mode :
    parseTransaction false .press [5, 3, 2, 1, 0xF4, 0] = some (.zoneMode .press 3 2 500 0) := by decide +kernel

/-- DECLARE LOT (19): scale 0, lot 5120, material 7, 600 minutes. -/
theorem test_parse_declare_lot :
    parseTransaction false .charge [19, 0, 0, 0, 0x14, 0, 0, 7, 2, 0x58] = some (.declareLot .charge 0 5120 7 600) := by
  decide +kernel

/-- FETCH (57): start 88, count 8, hold (9.10). -/
theorem test_parse_fetch :
    parseTransaction false .trace [57, 0, 0, 0, 88, 8, 1] = some (.fetch .trace 88 8 1) := by decide +kernel

/-- CLEAR CAVITY (53): cavity 2, SUSPECT. -/
theorem test_parse_clear_cavity :
    parseTransaction false .press [53, 2, 1] = some (.clearCavity .press 2 1) := by decide +kernel

/-- One operand byte short (R168), a byte above 62 (R169), and a count in held fetch (R164). -/
theorem test_parse_other_transactions :
    parseTransaction false .charge [11, 0, 0x19] = some (.transactionTruncated .charge) ∧
      parseTransaction false .press [63] = some (.unknownCommand .press 63) ∧
      parseTransaction true .trace [4] = some (.heldFetchCount 4) := by decide +kernel

/-- No row of the opcode table gives bits. -/
theorem test_no_table_word_spells_a_command : decodeTableWord 32 0 = none := rfl

/-! ### Single commands, against the worked cases -/

/-- The frame of 3.12: budget, requests, grants, on-counts and the throttle state. -/
theorem test_boundary_3_12 :
    let t := after .frameBoundary shortBudget
    t.hbo.budget = 12000 ∧ t.hbo.totalRequest = 15300 ∧ t.hbo.throttle = .throttled ∧
      [0, 3, 6, 9].map (fun z => (t.hbo.shares.get z).grant) = [800, 611, 900, 428] ∧
      [0, 3, 6, 9].map (fun z => (t.hbo.shares.get z).onCount) = [80, 61, 90, 42] ∧
      [0, 3, 6, 9].map (fun z => (t.hbo.shares.get z).offset) = [0, 25, 50, 75] ∧
      [0, 3, 6, 9].map (fun z => (t.hbo.shares.get z).output) = [true, false, true, true] := by decide +kernel

/-- The boundary of 3.12 once the curtailment has fallen to 5,000 W. -/
theorem test_boundary_3_12_curtailed :
    let t := after .frameBoundary { shortBudget with hbo := { shortBudget.hbo with curtailment := 5000, throttle := .throttled } }
    [0, 3, 6, 9].map (fun z => (t.hbo.shares.get z).grant) = [588, 0, 661, 0] ∧ t.hbo.throttle = .throttled := by
  decide +kernel

/-- The first capture of 4.12: the fifteenth sample, 12,752, settles at 12,751. -/
theorem test_ply_settles_4_12 :
    let s := { weighing scaleCapturing with shc := { mounted.shc with chargeCounter := 31 } }
    let t := after (.plySettled 0 247510) s
    (t.scales.get 0).session.map (fun e => (e.chargeId, e.total, e.cls, e.plies.map SessionPly.ply)) =
        some (some 31, 12751, some .low, [⟨12751, 5120⟩]) ∧
      t.shc.chargeCounter = 32 ∧ t.ltr.lots.map Lot.refs = [3] := by decide +kernel

/-- The ninth sample of 4.12: a count of 247,500 weighs 12,751. -/
theorem test_weight_4_12 : scale.reading (.ok 247500) = (12751, .ok) := by decide +kernel

/-- CLOSE CHARGE of 4.12's charge, and of a LOW one. -/
theorem test_close_charge_4_12 :
    said .charge (.closeCharge .charge 0) (weighing (scaleOpen session)) = some (.ok, [0, 0, 0, 31, 0, 0]) ∧
      said .charge (.closeCharge .charge 0) (weighing (scaleOpen { session with cls := some .low })) =
        some (.badState, [0]) := by decide +kernel

/-- The rates of 7.10. -/
theorem test_rates_7_10 :
    [1150, 1200, 1299, 1453, 1498, 1537, 1620, 1950].map (rateOf rates.toList) = [0, 0, 19, 63, 79, 94, 128, 200] := by
  decide +kernel

/-- One second of 7.11: cavity 0 at 1,455 gains 64. -/
theorem test_run_second_7_11 :
    let s := { pressSide .curing cavityCuring .press with
      msq := { State.reset.msq with tc := Table.replicate 12 ⟨1455, .ok, 3618, some 3618, true⟩ } }
    ((after .runSecond s).shc.press.bind fun sh => (sh.cavities.get 0).bind fun c => c.cure.map fun u =>
      (u.index, u.seconds, u.minT, u.maxT, u.blind)) = some (8875, 138, some 1388, some 1460, 0) := by decide +kernel

/-- The available count of 9.9 stops at the reserved slot, and rises past it once it is VOID. -/
theorem test_available_9_9 :
    let slots : Slot → Table Slot 256 := fun x => Table.ofFn fun i =>
      if 44 ≤ i.val ∧ i.val < 120 then (if i.val = 58 then x else .void (i.val + 1)) else .reserved (i.val + 257)
    let s : Slot → Nat → State := fun x w =>
      { State.reset with hrg := { State.reset.hrg with slots := slots x, nextSeq := 301, writePos := Fin.ofNat 256 w } }
    (s (.reserved 59) 44).available = 14 ∧ (s (.reserved 59) 44).oldest = 45 ∧ (s (.reserved 59) 58).available = 0 ∧
      (s (.void 59) 58).available = 62 := by decide +kernel

/-- The dispositions of 9.11. -/
theorem test_dispositions_9_11 :
    dispositionOf 10411 9000 CavityFlags.clear none false false = .good ∧
      dispositionOf 11024 9000 CavityFlags.clear none true false = .suspect ∧
      dispositionOf 7960 9000 { CavityFlags.clear with openedEarly := true } none false false = .scrap ∧
      dispositionOf 9400 9000 { CavityFlags.clear with forcedRelease := true, stuckCleared := true } (some .scrap) false false =
        .scrap ∧
      dispositionOf 9800 9000 CavityFlags.clear none false true = .suspect := by decide

/-- A reply's lengths: STATUS 45 bytes with its status apart, READ ZONES 404 (R182, R183). -/
theorem test_reply_lengths :
    (State.reset.statusReply .press).length = 45 ∧ State.reset.zonesReply.length = 404 ∧ recipe.bytes.length = 114 := by
  decide +kernel

/-- Opening a take: PART TAKEN of the only cavity seals the shot's record, and the entry is free. -/
theorem test_part_taken_seals_the_shot :
    let t := after (.partTaken .handler 0) (demoulding cavityCuring engagedOnce .handler)
    t.shc.press = none ∧ t.dmi.demould = none ∧ t.ports.trace.notices.map Notice.body = [.shotRecords 17 [1]] ∧
      (match t.hrg.slots.get 0 with | .sealed q (.part r) => (q, r.finalIndex, r.latency) | _ => (0, 0, none)) =
        (1, 8811, some 8) ∧ t.ltr.lots.map Lot.refs = [0] := by decide +kernel

/-- A second failed take makes the cavity STUCK (8.9). -/
theorem test_take_fail_sticks :
    said .handler (.takeFail .handler 0) (demoulding { cavityCuring with attempts := some 1 } engagedOnce .handler) =
      some (.ok, [5, 2]) := by decide +kernel

/-- DECLARE LOT of the other scale's lot moves it, with LOT_MOVED and the mark in the reply (4.13). -/
theorem test_lot_moves_4_13 :
    let s := weighing scale
    said .charge (.declareLot .charge 1 5120 7 600) s = some (.ok, [0, 0, 0x14, 0, 0, 1, 0x86, 0xA0, 0, 1]) ∧
      (after (.declareLot .charge 1 5120 7 600) s).ports.charge.notices.map Notice.body = [.lotMoved 5120 0 1] ∧
      [0, 1].map (fun k => ((after (.declareLot .charge 1 5120 7 600) s).scales.get k).currentLot) = [none, some 5120] := by
  decide +kernel

/-- A port reset of the press port with a close held: the shot stays, and CLOSE_ENDED stands in the emptied set (10.6). -/
theorem test_port_reset_10_6 :
    let s := closeHeld readyToClose
    said .press (.portReset .press) s = some (.ok, [1]) ∧
      (after (.portReset .press) s).ports.press.notices.map Notice.body = [.closeEnded 17 .portReset] ∧
      (after (.portReset .press) s).shc.heldClose = none ∧ (after (.portReset .press) s).shc.assembling.isSome = true := by
  decide +kernel

/-- MAINS returns at the requested frame length, THROTTLED by the fallen budget (3.13). -/
theorem test_mains_returns_3_13 :
    let s := { shortBudget with hbo := { shortBudget.hbo with
      mains := .lost, position := none, requestedLength := 120, curtailment := 9000 } }
    let t := after .zeroCross s
    t.hbo.frameLength = 120 ∧ t.hbo.budget = 9000 ∧ [0, 3, 6, 9].map (fun z => (t.hbo.shares.get z).offset) = [0, 30, 60, 90] ∧
      t.ports.press.notices.map Notice.body = [.mains .present, .throttle .throttled 9000 15300] := by decide +kernel

/-- A full cure: the second of 7.11 at which the last index reaches the target declares it, and grants the held open first
(R131). -/
theorem test_cure_declared_7_11 :
    let c := { cavityCuring with cure := some { Cure.start with index := 8945 } }
    let s := { pressSide .curing c .press with
      clock := 5330
      msq := { State.reset.msq with tc := Table.replicate 12 ⟨1453, .ok, 5330, some 5330, true⟩ } }
    let t := after .runSecond { s with shc := { s.shc with heldOpen := some 17 } }
    t.ports.press.notices.map Notice.body = [.openGranted 17, .cured 17 5331 [(0, 9008)]] ∧ t.shc.heldOpen = none := by
  decide +kernel

/-- The bytes of two select periods of PORT SETUP: filler for the command and the turnaround, the status byte, the reply, and filler
beyond its end (R167, R179, R180). -/
theorem test_select_period_of_port_setup :
    (((after (.portSetup .press 2) State.reset).ports.get .press).readBack 2 7).map BitVec.toNat =
        [255, 255, 255, 0, 2, 255, 255] ∧
      (((after (.portSetup .press 1) (after (.portSetup .press 2) State.reset)).ports.get .press).readBack 2 6).map BitVec.toNat =
        [255, 255, 255, 255, 0, 1] ∧
      ((State.reset.ports.get .trace).readBack 1 2).map BitVec.toNat = [255, 255] := by decide +kernel

/-- A cavity STAGED under sequence 1. -/
def cavityStaged : Cavity :=
  { Cavity.fresh with state := .staged, chargeId := some 31, sequence := some 1 }

/-- The station with the charge staged, at a run-second, its expiry taken or not. -/
def stagedAt (clock : Nat) (late : Bool) : State :=
  { assembling cavityStaged .handler [record (.staged 0 1 late)] with clock := clock }

/-- RETURN CHARGE in the out-deadline's own run-second: before the expiry the record is QUEUED and the expiry then marks it
with one notice; after it the record is EXPIRED and the expiry finds nothing to mark (R94). -/
theorem test_return_and_expiry_fall_together :
    let first := after (.returnCharge .handler 0) (stagedAt 6318 false)
    let then_ := after (.chargeExpired 31) first
    first.ltr.rack.map RackRecord.state = [.queued] ∧ then_.ltr.rack.map RackRecord.state = [.expired] ∧
      then_.ports.charge.notices.map Notice.body = [.chargeExpired 31 0 none] ∧
      (let last := after (.returnCharge .handler 0) (after (.chargeExpired 31) (stagedAt 6318 false))
      last.ltr.rack.map RackRecord.state = [.expired] ∧ last.ports.charge.notices.length = 1) := by decide +kernel

/-- SCALE STATUS shows the window a timed-out capture leaves: eight samples, a run of 7, no seconds (R59). -/
theorem test_scale_status_shows_the_kept_window :
    let t := after (.captureTimeout 0) { weighing scaleCapturing with clock := 3628 }
    let x := t.scales.get 0
    x.showsWindow = true ∧ x.window.length = 8 ∧ ((x.reply t.clock).drop 33).take 4 = [8, 7, 0, 0] := by decide +kernel

/-- A held close whose LOADED cavity is emptied by REMOVE CHARGE ends with BAD_STATE and that cavity (R110, R111, R177). -/
theorem test_held_close_ends_with_the_cavity :
    let t := after (.removeCharge .handler 0) (closeHeld (assembling (cavity .loaded) .handler []))
    t.ports.closeOutcome = some (.badState (some 0)) ∧
      t.ports.press.notices.map Notice.body = [.closeEnded 17 (.badState (some 0))] := by decide +kernel

/-! ### Witnesses: states that meet the statements' hypotheses -/

/-- MainsSafe, EjectSafe, RackSound and ShotsApart, in a station at work whose step answers a next state. -/
def working : State :=
  let s := demoulding cavityCuring engagedOnce .handler
  { s with
    hbo := budget, pending := [.zeroCross]
    ltr := { s.ltr with rack := [record .queued, { record .expired with position := 15 }] } }

theorem witness_HeatersStayOffWhileMainsLost :
    (working.hbo.mains = .lost ↔ working.hbo.position = none) ∧ (match step working with | .next _ => true | _ => false) = true ∧
      (State.reset.hbo.mains = .lost ∧ State.reset.hbo.position = none ∧
        ∀ z, (State.reset.hbo.shares.get z).output = false) := by decide +kernel

theorem witness_EjectGrantStaysUnderTheLock :
    (working.dmi.demould.isSome ↔ (working.pressIn .opened).isSome) ∧
      working.dmi.demould = some engagedOnce ∧ engagedOnce.engaged = true ∧ working.dmi.holder = .handler ∧
      (match step working with | .next _ => true | _ => false) = true := by decide +kernel

theorem witness_RackPositionsStayDistinct :
    (working.ltr.rack.map RackRecord.position).Nodup ∧ (∀ r ∈ working.ltr.rack, r.position < Config.rackRoom) := by
  decide +kernel

theorem witness_ShotTableKeepsOneOfEachKind :
    working.shc.assembling = none ∧ (working.shc.press.map Shot.phase) = some .opened := by decide +kernel

theorem witness_NoticeSetsStayBounded (p : Port) : (working.ports.get p).notices.length ≤ Config.noticeRoom := by
  cases p <;> decide +kernel

theorem witness_LotsStaySound :
    (working.scales.get 0).currentLot = none ∧ working.ltr.lots.Pairwise (fun a b => a.id < b.id) ∧
      working.ltr.lots.length ≤ Config.lotRoom := by decide +kernel

/-- RingSound of a ring with its first number issued and RESERVED. -/
theorem witness_RingKeepsEveryRetainedNumber : working.RingSound := by
  refine ⟨by decide +kernel, by decide +kernel, ?_, ?_⟩
  · intro q h1 h2
    have e1 : working.oldest = 1 := by decide +kernel
    have e2 : working.newest = 1 := by decide +kernel
    have : q = 1 := by omega
    subst this
    decide +kernel
  · intro i q h
    have h1 : ∀ j : Fin 256, (working.hrg.slots.get j).sequence = if j = 0 then some 1 else none := by decide +kernel
    rw [h1] at h
    have e1 : working.oldest = 1 := by decide +kernel
    have e2 : working.newest = 1 := by decide +kernel
    by_cases hi : i = 0
    · simp [hi] at h
      subst h
      rw [e1, e2, hi]
      decide +kernel
    · simp [hi] at h

theorem witness_TransactionsReadBack :
    (Instr.setGain .charge 0 6554).wellFormed = true ∧
      (Instr.setGain .charge 0 6554).spell = some (.charge, [11, 0, 0x19, 0x9A]) ∧
      (Instr.unknownCommand .trace 255).wellFormed = true ∧ (Instr.unknownCommand .trace 255).spell = some (.trace, [255]) := by
  decide +kernel

theorem witness_NotPermittedChangesNothing :
    Command.permitted .readZones .trace = false ∧ State.reset.inHeldFetch .trace = false := by decide +kernel

/-- A trace port in held fetch at 92 (9.10). -/
def heldFetch : State :=
  { State.reset with ports := { State.reset.ports with heldFetch := some 92 } }

/-- A ring with 300 numbers issued, the oldest retained 45 of them, its slots in every state a fetch may meet. -/
def fetching : State :=
  { State.reset with hrg := { Hrg.reset with
    nextSeq := 301, writePos := 44
    slots := Table.ofFn fun i =>
      if i.val < 44 then (if i.val = 43 then .reserved 300 else .void (i.val + 257)) else .void (i.val + 1) } }

/-- FetchFinds below the oldest retained, above the newest issued, and between. -/
theorem witness_HeldFetchTakesEveryByteAsACount :
    heldFetch.ports.heldFetch = some 92 ∧ fetching.oldest = 45 ∧ fetching.newest = 300 ∧ 44 < fetching.oldest ∧
      fetching.newest < 301 ∧ (fetching.fetchAnswer 44 8).status = .gone ∧ fetching.fetchNext 44 8 = 45 ∧
      (fetching.fetchAnswer 301 8).status = .none ∧ fetching.fetchNext 301 8 = 301 ∧
      fetching.hrg.slots.get (slotOf 300) = .reserved 300 ∧ fetching.hrg.slots.get (slotOf 299) = .void 299 ∧
      (fetching.fetchAnswer 299 9).status = .clamped ∧ fetching.fetchNext 299 9 = 301 ∧
      (fetching.fetchAnswer 299 8).fields.drop 11 = [0, 0, 1, 43, 4, 0, 0, 0, 0, 1, 44, 1, 0, 0] := by decide +kernel

theorem witness_PortLevelAnswers :
    State.reset.inHeldFetch .trace = false ∧ State.reset.inHeldFetch .press = false ∧ heldFetch.inHeldFetch .charge = false := by
  decide +kernel

theorem witness_ReadingRequestsChangeNothing :
    heldFetch.inHeldFetch .press = false ∧ State.reset.inHeldFetch .trace = false ∧ (7 : BitVec 8).toNat < 8 ∧
      8 ≤ (8 : BitVec 8).toNat ∧ 2 ≤ (2 : BitVec 8).toNat ∧ State.reset.shc.press = none ∧
      (pressSide .closing (cavity .loaded) .press).recipe = some recipe ∧
      said .press (.readCure .press) (pressSide .closing (cavity .loaded) .press) = some (.ok, [0]) ∧
      (said .press (.readCure .press) (pressSide .curing cavityCuring .press)).map (fun a => a.2.length) = some (16 + 24 * 1) := by
  decide +kernel

theorem witness_PortRequests :
    State.reset.inHeldFetch .trace = false ∧ heldFetch.inHeldFetch .handler = false := by decide +kernel

/-- A press port whose notice set is full. -/
def fullSet : State :=
  State.reset.modifyPort .press fun q => { q with notices := List.replicate 32 ⟨.zoneFault 3, 5⟩ }

theorem witness_NoticeJoinsItsPortsSet :
    (State.reset.ports.get .press).notices.length < 32 ∧ 32 ≤ (fullSet.ports.get .press).notices.length := by
  decide +kernel

theorem witness_results_for_the_outstanding_channel :
    State.reset.msq.tcConv = some ⟨0, 0⟩ ∧ State.reset.msq.lcConv = some ⟨0, 0⟩ ∧ (0 : Fin 12).val = 0 ∧ (0 : Fin 2).val = 0 ∧
      (State.reset.scales.get 0).state = .idle ∧ (weighing (scaleOpen session)).msq.lcConv = some ⟨0, 0⟩ ∧
      ((weighing (scaleOpen session)).scales.get 0).state = .opened ∧ (11 : Byte).toNat ≠ 0 ∧
      Unusable.badCheck ≠ .noConversion := by decide +kernel

/-- An OVERRANGE and a NO_REPLY sample in TARING and in CAPTURING, one steady sample short of settling: the window takes them as
unusable, the steady run is 0, and the scale goes on as it was (R58 to R60). -/
theorem witness_unusable_samples :
    let one := fun (x : Scale) (i : Instr) =>
      let y := (after i { weighing x with msq := { State.reset.msq with lcConv := some ⟨0, 3618⟩ } }).scales.get 0
      (y.state == x.state && y.steadyRun == 0 && y.session == x.session && y.reference == x.reference, y.window.length,
        y.window.getLast?)
    one scaleTaring (.loadCellResult 0 .overrange 9) = (true, 8, some ⟨some 9, none, false⟩) ∧
      one scaleTaring (.replyLimitExpiry .loadCell) = (true, 8, some ⟨none, none, false⟩) ∧
      one scaleCapturing (.loadCellResult 0 .overrange 9) = (true, 8, some ⟨some 9, some 65535, false⟩) ∧
      one scaleCapturing (.replyLimitExpiry .loadCell) = (true, 8, some ⟨none, some 0, false⟩) := by decide +kernel

theorem witness_StationSetupsAreWritten : State.reset.ports.heldFetch = none := by decide +kernel

/-- A zone in FAULT over its trip temperature, with its clear not accepted. -/
def faulted (accepted : Bool) (reading : Int) : State :=
  { State.reset with
    msq := { State.reset.msq with tc := Table.replicate 12 ⟨reading, .ok, 0, some 0, true⟩ }
    zct := { State.reset.zct with zones := State.reset.zct.zones.set 11 { Zone.reset with
      mode := .fault, fault := some ⟨.auto, .overTrip 2600, 0, accepted⟩ } } }

theorem witness_ZoneSetupIsPendingAndDerived : (11 : BitVec 8).toNat = (11 : Fin 12).val ∧ 12 ≤ (12 : BitVec 8).toNat := by decide

theorem witness_ZoneModeAndClearAreJudged :
    12 ≤ (12 : BitVec 8).toNat ∧ 3 ≤ (3 : BitVec 8).toNat ∧ (2 : BitVec 8).toNat < 3 ∧
      ((faulted false 2501).zct.zones.get 11).mode = .fault ∧ (State.reset.zct.zones.get 11).mode ≠ .fault ∧
      (((faulted false 2501).zct.zones.get 11).fault.map FaultInfo.clearAccepted) = some false ∧
      (((faulted true 2501).zct.zones.get 11).fault.map FaultInfo.clearAccepted) = some true ∧
      (faulted false 2500).judged 11 = .ok ∧ ((faulted false 2500).msq.tc.get 11).value ≤ Zone.reset.active.trip ∧
      (faulted false 2501).judged 11 = .ok ∧ (Zone.reset.active.trip : Int) < ((faulted false 2501).msq.tc.get 11).value ∧
      State.reset.judged 11 ≠ .ok := by decide +kernel

/-- The station in STANDBY. -/
def standby : State :=
  { State.reset with zct := { State.reset.zct with heatMode := .standby, emptySince := none } }

/-- The station `n` seconds after reset, its wait running. -/
def waited (n : Nat) : State :=
  { State.reset with clock := n }

theorem witness_HeatModeChanges :
    mounted.tableEmpty = true ∧ (shortBudget).tableEmpty = false ∧ standby.tableEmpty = true ∧ standby.zct.heatMode = .standby ∧
      State.reset.zct.heatMode = .production ∧ (waited 900).zct.emptySince = some 0 ∧ (waited 900).zct.stepDelay = 15 ∧
      (waited 900).zct.standbyDelay = 15 ∧ 15 * 60 ≤ (waited 900).clock - 0 ∧ (waited 899).clock - 0 < 15 * 60 ∧
      (15 : Nat) ≠ 0 := by decide +kernel

theorem witness_PulseIsBoundary : State.reset.hbo.mains = .lost ∧ shortBudget.hbo.mains = .present ∧
    shortBudget.hbo.position = some 99 ∧ shortBudget.hbo.frameLength ≤ 99 + 1 := by decide +kernel

/-- Pulses that are boundaries, with mains LOST and at the end of a frame. -/
theorem witness_boundaries : State.reset.PulseIsBoundary ∧ shortBudget.PulseIsBoundary := by
  refine ⟨.inl (by decide +kernel), .inr ?_⟩
  intro p h
  have e : shortBudget.hbo.position = some 99 := by decide +kernel
  have f : shortBudget.hbo.frameLength = 100 := by decide +kernel
  rw [e] at h
  cases h
  rw [f]

/-- Zone 5 at a boundary in a mode, with a reading of 1,000 and a count of invalid boundaries. -/
def watched (x : Zone) (st : TcStatus) (value : Int) : State :=
  { State.reset with
    msq := { State.reset.msq with tc := Table.replicate 12 ⟨value, st, 0, some 0, true⟩ }
    zct := { State.reset.zct with zones := State.reset.zct.zones.set 5 x } }

/-- A zone in AUTO. -/
def autoZone (invalid : Nat) : Zone :=
  { Zone.reset with mode := .auto, invalidCount := invalid }

theorem witness_BoundaryControlsAutoZone :
    let s := watched (autoZone 0) .ok 1000
    let x := s.zct.zones.get 5
    x.mode = .auto ∧ x.pendingMode = none ∧ s.judged 5 = .ok ∧
      (s.msq.tc.get 5).value ≤ (x.pendingSetup.getD x.active).trip ∧ s.hbo.mains = .lost := by decide +kernel

/-- A pending mode change at a boundary: from OFF to AUTO, to MANUAL for one frame, whose count does not step there, and back to
OFF (R19); and one that meets a temperature over the trip, with its ZONE_FAULT (R21). -/
theorem witness_BoundaryWatchesForFaults_pending :
    let taken := fun (x : Zone) (value : Int) => (after .frameBoundary (watched x .ok value)).zct.zones.get 5
    let off := { Zone.reset with pendingMode := some .auto }
    let once := { Zone.reset with pendingMode := some (.manual 300 (.left 1)) }
    let ended := { autoZone 1 with pendingMode := some .off, integrator := 40 }
    (taken off 1000).mode = .auto ∧ (taken once 1000).mode = .manual ∧ (taken once 1000).frames = some (.left 1) ∧
      (taken once 1000).demand = 300 ∧ (taken ended 1000).mode = .off ∧ (taken ended 1000).integrator = 0 ∧
      (taken ended 1000).invalidCount = 0 ∧ (taken off 2501).mode = .fault ∧
      (after .frameBoundary (watched off .ok 2501)).ports.press.notices.map Notice.body =
        [.mains .present, .zoneFault 5] := by decide +kernel

/-- A close held for a zone in AUTO that the next boundary finds READY is granted there (R28, R110), and a boundary at which
nothing changes leaves it held. -/
theorem witness_BoundaryLoadsTheFrame :
    let cold : Zone := { Zone.reset with mode := .auto, pendingSetpoint := 1500 }
    let warm : Zct := { Zct.reset with zones := Table.replicate 12 cold }
    let s := fun (value : Int) => { closeHeld readyToClose with
      zct := warm, hbo := budget
      msq := { State.reset.msq with tc := Table.replicate 12 ⟨value, .ok, 3618, some 3618, true⟩ } }
    (s 1500).shc.heldClose.isSome = true ∧ (after .frameBoundary (s 1500)).shc.heldClose = none ∧
      (after .frameBoundary (s 1500)).ports.press.notices.map Notice.body = [.closeGranted 17] ∧
      (after .frameBoundary (s 1600)).shc.heldClose.isSome = true ∧
      (after .frameBoundary (s 1600)).ports = (s 1600).ports ∧
      (after .frameBoundary shortBudget).ports.press.notices.map Notice.body = [.throttle .throttled 12000 15300] ∧
      (after .frameBoundary shortBudget).ports.trace.notices.map Notice.body = [.throttle .throttled 12000 15300] ∧
      (after .frameBoundary State.reset).ports.press.notices.map Notice.body = [.mains .present] := by decide +kernel

theorem witness_BoundaryWatchesForFaults :
    (watched (autoZone 0) .open_ 1000).judged 5 ≠ .ok ∧ (autoZone 0).invalidCount = 0 ∧ (autoZone 1).invalidCount ≠ 0 ∧
      (watched (autoZone 1) .range 1000).judged 5 ≠ .ok ∧
      (watched (autoZone 0) .ok 2501).judged 5 = .ok ∧ ((autoZone 0).active.trip : Int) < 2501 ∧ (2500 : Int) ≤ (autoZone 0).active.trip ∧
      (manualZone 800 4000).frames = some .continuous ∧ (manualZone 800 4000).pendingMode = none ∧
      ({ manualZone 800 4000 with frames := some (.left 2) } : Zone).frames = some (.left 2) ∧
      ({ manualZone 800 4000 with frames := some (.left 1) } : Zone).frames = some (.left 1) ∧
      (let finite := fun n => ({ manualZone 800 4000 with frames := some (.left 2), invalidCount := n } : Zone)
      (watched (finite 0) .open_ 1000).judged 5 ≠ .ok ∧ (finite 0).invalidCount = 0 ∧ (finite 1).invalidCount ≠ 0 ∧
        (watched (finite 0) .ok 2501).judged 5 = .ok ∧ ((finite 0).active.trip : Int) < 2501) ∧
      (faulted true 2501).judged 11 = .ok ∧ (Zone.reset.active.trip : Int) < 2501 ∧
      (let open_ := { faulted true 2500 with
        msq := { State.reset.msq with tc := Table.replicate 12 ⟨2500, .open_, 0, some 0, true⟩ } }
      open_.judged 11 ≠ .ok ∧ (open_.zct.zones.get 11).invalidCount = 0 ∧ (open_.zct.zones.get 11).mode = .fault) ∧
      ((faulted true 2500).zct.zones.get 11).pendingMode = none ∧ (faulted true 2500).judged 11 = .ok ∧
      ((faulted true 2500).zct.zones.get 11).fault = some ⟨.auto, .overTrip 2600, 0, true⟩ ∧
      ((faulted false 2500).zct.zones.get 11).fault = some ⟨.auto, .overTrip 2600, 0, false⟩ ∧
      (State.reset.zct.zones.get 5).mode = .off := by decide +kernel

theorem witness_ThrottleFollowsRequests :
    State.reset.hbo.throttle = .normal ∧ shortBudget.hbo.throttle = .normal ∧
      ({ shortBudget.hbo with throttle := .throttled } : Hbo).throttle = .throttled := by decide +kernel

theorem witness_HalfCyclesAndTheMainsWatch :
    ({ shortBudget.hbo with position := some 98 } : Hbo).mains = .present ∧ 98 + 1 < shortBudget.hbo.frameLength ∧
      shortBudget.hbo.mains = .present ∧ State.reset.hbo.mains = .lost := by decide +kernel

/-! ### Witnesses: scales, lots and the rack -/

theorem witness_IdleScaleTakesItsSettings :
    2 ≤ (2 : BitVec 8).toNat ∧ ((weighing scaleTaring).scales.get 0).state ≠ .idle ∧ (3 : BitVec 8).toNat < 4 ∧
      ((weighing scale).scales.get 0).state = .idle := by decide +kernel

theorem witness_TareStartsAndTimesOut :
    ((weighing scaleTaring).scales.get 0).state = .taring ∧ ((weighing scaleTaring).scales.get 0).deadline = some 3628 ∧
      (weighing scaleTaring).clock < 3628 ∧ 3628 ≤ ({ weighing scaleTaring with clock := 3628 } : State).clock ∧
      ((weighing scale).scales.get 0).gain ≠ 0 ∧ (State.reset.scales.get 0).gain = 0 ∧
      (State.reset.scales.get 0).state = .idle ∧ (State.reset.scales.get 0).state ≠ .taring := by decide +kernel

/-- Settling and not: the eighth steady sample settles scale 0, and one outside the band does not. -/
theorem witness_TareSettlesOnTheMean :
    let s := weighing scaleTaring
    s.msq.lcConv = some ⟨0, 0⟩ ∧ (s.scales.get 0).state = .taring ∧ (s.scales.get 0).count = 8 ∧
      ((after (.tareSettled 0 120000) s).scales.get 0).zero = 120000 ∧
      ((after (.tareSettled 0 120000) s).scales.get 0).state = .idle ∧
      ((after (.tareSettled 0 121000) s).scales.get 0).steadyRun = 0 ∧
      ((after (.tareSettled 0 121000) s).scales.get 0).state = .taring := by decide +kernel

/-- A capture that settles with a ply, one too light for its session's total, and one not settled. -/
theorem witness_PlySettlesOnTheMean :
    let s := weighing scaleCapturing
    let light := weighing { scaleCapturing with session := some { session with armedLot := some 5120, total := 12700 } }
    s.msq.lcConv = some ⟨0, 0⟩ ∧ (s.scales.get 0).state = .capturing ∧
      ((s.scales.get 0).session.bind Session.armedLot) = some 5120 ∧ (s.scales.get 0).steadyRun + 1 = (s.scales.get 0).count ∧
      ((after (.plySettled 0 247510) s).scales.get 0).state = .opened ∧
      (after (.plySettled 0 247510) light).ports.charge.notices.map Notice.body = [.plyTooLight 0 51] ∧
      ((light.scales.get 0).session.bind Session.chargeId) = some 31 ∧
      ((after (.plySettled 0 300000) s).scales.get 0).state = .capturing := by decide +kernel

theorem witness_WeighStartOpensASession :
    4 ≤ (4 : BitVec 8).toNat ∧ ((weighing scale).scales.get 0).state = .idle ∧ State.reset.recipe = none ∧
      (weighing scale).recipe = some recipe ∧ (State.reset.scales.get 0).gain = 0 ∧ scale.gain ≠ 0 ∧
      scale.tareTime = some 3400 ∧ 3400 ≤ (weighing scale).clock ∧ (weighing scale).clock - 3400 ≤ scale.validity * 60 ∧
      ({ weighing scale with clock := 5201 } : State).clock - 3400 > scale.validity * 60 ∧
      recipe.namesGroup 1 = true ∧ recipe.namesGroup 0 = false := by decide +kernel

theorem witness_CaptureStartsAndTimesOut :
    2 ≤ (2 : BitVec 8).toNat ∧ scaleCapturing.state = .capturing ∧ scale.state = .idle ∧ (scaleOpen session).state = .opened ∧
      (scaleOpen session).session = some session ∧ (scaleOpen session).currentLot = some 5120 ∧
      ({ scaleOpen session with currentLot := none } : Scale).currentLot = none ∧
      (weighing (scaleOpen session)).lot? 5120 = some lot ∧ ¬ lot.deadline ≤ (weighing (scaleOpen session)).clock ∧
      lot.deadline ≤ ({ weighing (scaleOpen session) with clock := 100000 } : State).clock ∧ session.plies.length < 6 ∧
      6 ≤ (List.replicate 6 (⟨⟨100, 5120⟩, 3606⟩ : SessionPly)).length ∧ scaleCapturing.deadline = some 3628 ∧
      (weighing scaleCapturing).clock < 3628 ∧ scaleCapturing.session.isSome = true := by decide +kernel

/-- A rack with all sixteen positions taken. -/
def fullRack : List RackRecord :=
  (List.range 16).map fun i => { record .queued with position := i }

theorem witness_CloseChargeFillsTheRack :
    session.plies ≠ [] ∧ session0.plies = [] ∧ session.cls = some .accept ∧ (weighing (scaleOpen session)).recipe = some recipe ∧
      (∀ y ∈ (weighing (scaleOpen session)).ltr.rack, y.position ≠ 0) ∧ (∀ i < 16, ∃ r ∈ fullRack, r.position = i) ∧
      (∀ y ∈ fullRack.take 15, y.position ≠ 15) ∧ (∀ i < 15, ∃ y ∈ fullRack.take 15, y.position = i) ∧
      ({ session with cls := some .low } : Session).cls = some .low ∧ ({ session with cls := some .high } : Session).cls = some .high := by
  decide +kernel

/-- The fourteenth record, with its out-deadline reached at the close: RACK_HIGH, then CHARGE_EXPIRED (log entry 17). -/
theorem witness_CloseChargeFillsTheRack_expired :
    let s := weighing (scaleOpen session)
    let u := { s with ltr := { s.ltr with lots := [{ lot with deadline := 3618 }], rack := fullRack.take 13 } }
    let t := after (.closeCharge .charge 0) u
    u.ltr.rack.length = 13 ∧ (t.ltr.rack.getLast?).map (fun r => (r.position, r.state, r.charge.outDeadline)) =
        some (13, .expired, 3618) ∧
      t.ports.charge.notices.map Notice.body = [.rackHigh 14, .chargeExpired 31 13 none] := by decide +kernel

/-- A ring with no slot available. -/
def barred : Hrg :=
  { Hrg.reset with slots := Hrg.reset.slots.set 0 (.reserved 257), nextSeq := 513 }

theorem witness_DiscardDropsTheSession :
    (weighing (scaleOpen session)).canIssue = true ∧ ({ weighing (scaleOpen session) with hrg := barred } : State).canIssue = false ∧
      session.plies ≠ [] ∧ session0.plies = [] ∧ (scaleOpen session).state = .opened ∧ scaleCapturing.state = .capturing ∧
      scale.state = .idle := by decide +kernel

/-- A lot table with 32 entries, none of them in use. -/
def fullTable (refs : Nat) : State :=
  { weighing scale with ltr := { mounted.ltr with lots := (List.range 32).map fun i => ⟨i + 1, 7, 100000, 0, 100 + i, refs⟩ } }

theorem witness_LotsAreDeclaredAndAge :
    (weighing scale).lot? 5120 = some lot ∧ lot.material = (7 : BitVec 16).toNat ∧ lot.material ≠ (8 : BitVec 16).toNat ∧
      (weighing scale).lot? 7001 = none ∧ (weighing scale).ltr.lots.length < 32 ∧ (5120 : BitVec 32) ≠ 0 ∧
      (fullTable 1).lot? 7001 = none ∧ 32 ≤ (fullTable 1).ltr.lots.length ∧
      (∀ l ∈ (fullTable 1).ltr.lots, (fullTable 1).lotInUse l = true) ∧
      (⟨1, 7, 100000, 0, 100, 0⟩ : Lot) ∈ (fullTable 0).ltr.lots ∧
      (∀ l ∈ (fullTable 0).ltr.lots, l ≠ ⟨1, 7, 100000, 0, 100, 0⟩ → 100 < l.lastSeen) ∧
      (fullTable 0).ltr.lots.Pairwise (fun a b => a.id < b.id) ∧
      (∀ l ∈ (weighing scale).ltr.lots, l.lastSeen ≤ (weighing scale).clock) := by decide +kernel

/-- The station with one rack record. -/
def racked (st : RackState) (clock : Nat) : State :=
  { mounted with clock := clock, ltr := { mounted.ltr with rack := [record st], lots := [lot] } }

theorem witness_ChargesAreDiscardedAndExpire :
    State.reset.rackRecord? 31 = none ∧ (racked .queued 3618).rackRecord? 31 = some (record .queued) ∧
      (racked .expired 3618).rackRecord? 31 = some (record .expired) ∧
      (racked (.staged 0 1 false) 6318).rackRecord? 31 = some (record (.staged 0 1 false)) ∧
      charge.outDeadline = (racked .queued 6318).clock ∧ charge.outDeadline ≠ (racked .queued 3618).clock ∧
      (racked .queued 3618).canIssue = true ∧ ({ racked .queued 3618 with hrg := barred } : State).canIssue = false := by
  decide +kernel

theorem witness_ChargesAreStagedAndReturned :
    let s := assembling Cavity.fresh .handler [record .queued]
    let t := assembling cavityStaged .handler [record (.staged 0 1 false)]
    4 ≤ (4 : BitVec 8).toNat ∧ State.reset.shc.assembling = none ∧
      (shot .assembling Cavity.fresh).cavities.get 1 = none ∧
      (shot .assembling Cavity.fresh).cavities.get 0 = some Cavity.fresh ∧ s.recipe = some recipe ∧ s.canIssue = true ∧
      s.ltr.rack = [] ++ record .queued :: [] ∧ (record .queued).suits recipe 0 s.clock = true ∧
      (record .expired).suits recipe 0 s.clock = false ∧ s.clock + recipe.loadMargin ≤ charge.outDeadline ∧
      t.rackRecord? 31 = some (record (.staged 0 1 false)) ∧ t.hrg.slots.get (slotOf 1) = .reserved 1 ∧
      ({ s with hrg := barred } : State).canIssue = false := by decide +kernel

/-- ReturnsAs before the out-deadline, in its own second with the expiry not taken and taken, and after it. -/
theorem witness_ReturnsAs :
    (stagedAt 6317 false).clock < charge.outDeadline ∧ (stagedAt 6318 false).clock = charge.outDeadline ∧
      charge.outDeadline < (stagedAt 6319 true).clock ∧
      [stagedAt 6317 false, stagedAt 6318 false, stagedAt 6318 true, stagedAt 6319 true].map (fun s =>
        (said .handler (.returnCharge .handler 0) s).map (fun a => a.2.getLast?)) =
          [some (some 0), some (some 0), some (some 1), some (some 1)] := by decide +kernel

theorem witness_ChargesAreLoadedAndRemoved :
    let t := assembling cavityStaged .handler [record (.staged 0 1 false)]
    let l := assembling (cavity .loaded) .handler []
    t.dmi.holder = .handler ∧ t.shc.assembling = some (shot .assembling cavityStaged) ∧ t.shc.press = none ∧
      t.rackRecord? 31 = some (record (.staged 0 1 false)) ∧
      l.shc.assembling = some (shot .assembling (cavity .loaded)) ∧ (cavity .loaded).state = .loaded ∧
      l.hrg.slots.get (slotOf 1) = .reserved 1 ∧ State.reset.dmi.holder ≠ .handler := by decide +kernel

/-- A ring whose free slots are the `n` from slot `w` on, the write position, with slot 0 RESERVED for sequence 1. -/
def roomFrom (w n : Nat) : Hrg :=
  { Hrg.reset with
    slots := Table.ofFn fun i => if w ≤ i.val ∧ i.val < w + n then .free else .reserved (i.val + 1)
    writePos := Fin.ofNat 256 w, nextSeq := w + 1 }

/-- An issue that leaves 15 slots, newly below the mark of 16: DISCARD, DISCARD CHARGE and TAKE CHARGE set HISTORY_LOW, after
RECORDS_READY where one is set; and a return that makes 15 slots 16 clears the finding (R152, R154). -/
theorem witness_newlyLow :
    let bodies := fun (t : State) => (t.ports.press.notices.map Notice.body, t.ports.trace.notices.map Notice.body, t.hrg.below)
    let low := NoticeBody.historyLow 15 2 1
    ({ State.reset with hrg := roomFrom 1 16 } : State).available = 16 ∧
      bodies (after (.discard .charge 0) { weighing (scaleOpen session) with hrg := roomFrom 1 16 }) =
        ([low], [.scrapRecords [2], low], true) ∧
      bodies (after (.discardCharge .charge 31) { racked .queued 3618 with hrg := roomFrom 1 16 }) =
        ([low], [.scrapRecords [2], low], true) ∧
      bodies (after (.takeCharge .handler 0) { assembling Cavity.fresh .handler [record .queued] with hrg := roomFrom 1 16 }) =
        ([low], [low], true) ∧
      bodies (after (.returnCharge .handler 0) { stagedAt 3618 false with hrg := { roomFrom 241 15 with below := true } }) =
        ([], [], false) := by
  decide +kernel

/-! ### Witnesses: recipes, shots and cure -/

theorem witness_RecipesAreCheckedAndWritten :
    badBody body = false ∧ (recipeOf body).ordered = true ∧ bodyClamped body (recipeOf body) = false ∧
      recipeOf body = recipe ∧ badBody { body with cavityCount := 5 } = true ∧
      (recipeOf { body with overCure := 9000 }).ordered = false ∧
      bodyClamped { body with bumpCount := 6 } (recipeOf { body with bumpCount := 6 }) = true ∧
      mounted.shc.mounted = some 2 ∧ mounted.shc.mounted ≠ some 3 ∧ 8 ≤ (8 : BitVec 8).toNat := by decide +kernel

theorem witness_MouldsAreMountedAndShotsArmed :
    let s := { mounted with shc := { mounted.shc with mounted := none } }
    s.shc.mounted = none ∧ s.tableEmpty = true ∧ s.shc.recipes.get 2 = some recipe ∧ mounted.shc.mounted.isSome = true ∧
      s.shc.recipes.get 0 = none ∧ shortBudget.tableEmpty = false ∧ mounted.recipe = some recipe ∧ mounted.ltr.rack = [] ∧
      (∀ k, (mounted.scales.get k).state = .idle) ∧ ((weighing (scaleOpen session)).scales.get 0).state = .opened ∧
      (3 : BitVec 8) ≠ 0 ∧ (3 : BitVec 8).toNat < 2 ^ recipe.cavityCount ∧ 2 ^ recipe.cavityCount ≤ (4 : BitVec 8).toNat ∧
      mounted.shc.assembling = none ∧ (assembling Cavity.fresh .free []).shc.assembling.isSome = true ∧
      mounted.zct.heatMode = .production := by decide +kernel

theorem witness_CloseIsGrantedHeldOrRefused :
    let off := { readyToClose with zct := zonesIn .off false }
    let bad := { readyToClose with zct := zonesIn .fault false }
    let cold := { readyToClose with zct := zonesIn .auto false }
    readyToClose.shc.assembling = some (shot .assembling (cavity .loaded)) ∧ readyToClose.shc.press = none ∧
      State.reset.shc.assembling = none ∧ (assembling cavityStaged .handler []).closeRefusal.map Prod.snd = some (.badState (some 0)) ∧
      ({ readyToClose with clock := 6318 } : State).closeRefusal.map Prod.snd = some (.chargeExpired 0) ∧
      off.closeRefusal.map Prod.snd = some (.zoneNotActive 0) ∧ bad.closeRefusal.map Prod.snd = some (.zoneFault 0) ∧
      readyToClose.closeRefusal = none ∧ readyToClose.holdMet = true ∧ cold.closeRefusal = none ∧ cold.holdMet = false ∧
      (closeHeld readyToClose).shc.heldClose = some ⟨17, 3600⟩ ∧ (closeHeld cold).holdMet = false := by decide +kernel

/-- HELD carries the lock holder, the needed zones not READY (mask 0x0C3 of cavity 0) and the throttle state (R109, R180). -/
theorem witness_CloseIsGrantedHeldOrRefused_held :
    said .press (.close .press) { readyToClose with zct := zonesIn .auto false } = some (.held, [0, 0, 0xC3, 0]) ∧
      said .press (.close .press) (closeHeld { readyToClose with
        dmi := { readyToClose.dmi with holder := .handler }, hbo := { readyToClose.hbo with throttle := .throttled } }) =
          some (.held, [2, 0, 0, 1]) := by decide +kernel

/-- Fields that may be absent, under the presence byte of R180: in notices (R90, R111, R119, R157, R190) and in the replies of
DISCARD and PRESSURE (R74, R114; log entries 16 and 32). -/
theorem test_presence_bytes :
    let entry := fun b : NoticeBody => (Notice.entry ⟨b, 3618⟩).map BitVec.toNat
    entry (.closeEnded 17 (.chargeExpired 2)) = [1, 0, 0, 14, 34, 7, 1, 0, 0, 0, 17, 9, 2] ∧
      entry (.closeEnded 17 .withdrawn) = [1, 0, 0, 14, 34, 7, 0, 0, 0, 0, 17, 1, 0] ∧
      entry (.chargeExpired 31 4 (some 2)) = [15, 0, 0, 14, 34, 8, 1, 0, 0, 0, 31, 4, 2, 2] ∧
      entry (.chargeExpired 31 4 none) = [15, 0, 0, 14, 34, 8, 0, 0, 0, 0, 31, 4, 1, 0] ∧
      entry (.shotRecords 17 [88]) = [23, 0, 0, 14, 34, 10, 1, 0, 0, 0, 17, 1, 0, 0, 0, 88] ∧
      entry (.scrapRecords [88]) = [23, 0, 0, 14, 34, 10, 0, 0, 0, 0, 0, 1, 0, 0, 0, 88] ∧
      said .charge (.discard .charge 0) (weighing (scaleOpen session)) = some (.ok, [1, 0, 0, 0, 1]) ∧
      said .charge (.discard .charge 0) (weighing (scaleOpen session0)) = some (.ok, [0, 0, 0, 0, 0]) ∧
      said .press (.pressure .press) (pressSide .closing (cavity .loaded) .press) = some (.ok, [1, 1, 0, 0, 0, 1]) ∧
      said .press (.pressure .press) (pressSide .curing cavityCuring .press) = some (.ok, [0, 0]) := by decide +kernel

theorem witness_PressReportsLeadToCure :
    (∀ ph ∈ [Phase.closing, .bumping, .curing], ((pressSide ph (cavity .loaded) .press).shc.press.map Shot.phase) = some ph) ∧
      (pressSide .closing (cavity .loaded) .press).dmi.holder = .press ∧
      (pressSide .closing (cavity .loaded) .press).recipe = some recipe ∧ State.reset.shc.press = none ∧
      (pressSide .closing (cavity .loaded) .press).shc.partCounter + 4 ≤ Config.maxWord := by decide +kernel

theorem witness_OpeningReleasesTheMould :
    (∀ ph ∈ [Phase.closing, .bumping, .curing, .cured, .opened, .aborted],
      ((pressSide ph (cavity .loaded) .press).shc.press.map Shot.phase) = some ph) ∧
      (pressSide .curing cavityCuring .press).recipe = some recipe ∧ State.reset.shc.press = none ∧
      (pressSide .closing (cavity .loaded) .press).hrg.slots.get (slotOf 1) = .reserved 1 ∧
      (shot .closing (cavity .loaded)).cavities.get 0 = some (cavity .loaded) := by decide +kernel

/-- OPENED with a claim pending under the press's hold: the lock passes with CLAIM_GRANTED, before OPENED; in CLOSING after
SHOT_ABORTED (R117, R138). -/
theorem witness_OpeningReleasesTheMould_claimed :
    let claimed := fun (s : State) => { s with dmi := { s.dmi with claim := some 3600 } }
    let t := after (.opened .press) (claimed (pressSide .curing cavityCuring .press))
    let u := after (.opened .press) (claimed (pressSide .closing (cavity .loaded) .press))
    t.dmi.holder = .handler ∧ t.ports.claimOutcome = some .granted ∧
      t.ports.handler.notices.map Notice.body = [.claimGranted 3618, .opened 17 .curing] ∧
      u.ports.handler.notices.map Notice.body = [.shotAborted 17, .claimGranted 3618, .opened 17 .closing] := by decide +kernel

/-- OPENED in BUMPING scraps the charge, with RECORDS_READY at the trace port (R117, R157). -/
theorem witness_OpeningReleasesTheMould_scrapped :
    (after (.opened .press) (pressSide .bumping (cavity .loaded) .press)).ports.trace.notices.map Notice.body =
      [.scrapRecords [1]] := by decide +kernel

theorem witness_AbortsReturnOrScrapTheCharges :
    let staged := assembling cavityStaged .handler [record (.staged 0 1 false)]
    staged.shc.assembling = some (shot .assembling cavityStaged) ∧ (shot .assembling cavityStaged).number = (17 : BitVec 32).toNat ∧
      staged.ltr.rack[0]? = some (record (.staged 0 1 false)) ∧
      staged.rackRecord? 31 = some (record (.staged 0 1 false)) ∧ staged.hrg.slots.get (slotOf 1) = .reserved 1 ∧
      readyToClose.shc.assembling = some (shot .assembling (cavity .loaded)) ∧
      (pressSide .bumping (cavity .loaded) .press).shc.press = some (shot .bumping (cavity .loaded)) ∧
      (pressSide .bumping (cavity .loaded) .press).shc.assembling = none ∧
      (pressSide .curing cavityCuring .press).shc.press = some (shot .curing cavityCuring) := by decide +kernel

/-- An assembling shot with charge 32 STAGED under sequence 2, beside shot 16 in BUMPING with charge 31 under sequence 1. -/
def bothShots : State :=
  let s := assembling { cavityStaged with chargeId := some 32, sequence := some 2 } .press
    [{ record (.staged 0 2 false) with charge := { charge with id := 32 } }]
  { s with
    shc := { s.shc with press := some { shot .bumping (cavity .loaded) with number := 16 } }
    dmi := { s.dmi with claim := some 3610 }
    hrg := { Hrg.reset with
      slots := (Hrg.reset.slots.set 0 (.reserved 1)).set 1 (.reserved 2), writePos := 2, nextSeq := 3 } }

/-- PRODUCTION RESET of both shots: charge 32 is back in the rack and slot 2 VOID, charge 31 is SCRAP in slot 1, shot 16 is
ABORTED, and the claim is gone (R120). -/
theorem witness_AbortsReturnOrScrapTheCharges_reset :
    let t := after (.productionReset .press) bothShots
    said .press (.productionReset .press) bothShots = some (.ok, [2, 0, 0, 0, 17, 0, 0, 0, 16]) ∧
      t.ltr.rack.map RackRecord.state = [.queued] ∧ t.ltr.lots.map Lot.refs = [0] ∧
      t.hrg.slots.get (slotOf 2) = .void 2 ∧
      (match t.hrg.slots.get 0 with | .sealed q (.scrap r) => (q, r.chargeId) | _ => (0, 0)) = (1, 31) ∧
      t.shc.assembling = none ∧ (t.shc.press.map Shot.phase) = some .aborted ∧ t.dmi.claim = none ∧
      t.zct.emptySince = bothShots.zct.emptySince ∧
      t.ports.handler.notices.map Notice.body = [.shotAborted 17, .shotAborted 16] ∧
      t.ports.claimOutcome = some .productionReset := by decide +kernel

/-- The finding of the last comparison holds beside a staged cavity and beside none (R154). -/
theorem witness_LowCompared : bothShots.LowCompared ∧ readyToClose.LowCompared ∧ State.reset.LowCompared := by
  unfold State.LowCompared
  decide +kernel

/-- PRODUCTION RESET of an assembling shot alone, its close held: the entry is freed now (R29, R111, R120). -/
theorem witness_AbortsReturnOrScrapTheCharges_alone :
    let t := after (.productionReset .press) (closeHeld readyToClose)
    t.zct.emptySince = some 3618 ∧ t.ports.press.notices.map Notice.body = [.closeEnded 17 .productionReset] ∧
      t.ports.trace.notices.map Notice.body = [.scrapRecords [1]] ∧
      (stagedAt 3618 false).shc.press = none ∧ State.reset.shc.assembling = none := by decide +kernel

theorem witness_RateFollowsTheTable :
    (∀ i j : Fin 8, i < j → (rates.get i).temp < (rates.get j).temp) ∧
      (∀ i j : Fin 8, i < j → (rates.get i).rate ≤ (rates.get j).rate) ∧
      (1199 : Int) < (rates.get 0).temp ∧ (rates.get 7).temp ≤ 1900 ∧ (rates.get 0).temp ≤ 1200 ∧ (1200 : Int) < (rates.get 1).temp := by
  decide +kernel

theorem witness_RunSecondCountsTheCure :
    let s := { pressSide .curing cavityCuring .press with
      msq := { State.reset.msq with tc := Table.replicate 12 ⟨1455, .ok, 3618, some 3618, true⟩ } }
    s.clock < Config.maxWord ∧ s.shc.press = some (shot .curing cavityCuring) ∧ s.recipe = some recipe ∧
      (shot .curing cavityCuring).cavities.get 0 = some cavityCuring ∧ cavityCuring.cure.isSome = true ∧
      (∀ z : Fin 12, (after .runSecond s).judged z = .ok) ∧ (s.msq.tc.get 0).value = 1455 ∧
      (recipe.cavities.get 0).mask.getLsbD 0 = true ∧
      ((after .runSecond (pressSide .curing cavityCuring .press)).judged 0 ≠ .ok) ∧
      ((after .runSecond { s with shc := { s.shc with recipes := s.shc.recipes.set 2 (some { recipe with cureTarget := 8875 }) } }
        ).shc.press.map Shot.phase) = some .cured ∧
      s.shc.heldOpen = none ∧ ({ s with shc := { s.shc with heldOpen := some 17 } } : State).shc.heldOpen = some 17 := by
  decide +kernel

/-- No deadline is due in the station just after reset. -/
theorem witness_NothingDue : State.reset.NothingDue := by
  have idle : ∀ k, (State.reset.scales.get k).state = .idle := by decide +kernel
  refine ⟨fun k d h _ => by rw [idle] at h; simp at h, by simp [State.reset, Ltr.reset], by simp [State.reset, Shc.reset],
    by simp [State.reset, Dmi.reset], ?_, by simp [State.reset, Ltr.reset]⟩
  intro t h
  have : t = 0 := by simpa [State.reset, Zct.reset] using h.symm
  subst this
  exact ⟨by decide +kernel, by decide +kernel⟩

/-- No deadline is due beside a shot that cures, in a station whose standby wait does not run. -/
theorem witness_NothingDue_curing :
    let s := pressSide .curing cavityCuring .press
    ({ s with zct := { s.zct with emptySince := none } } : State).NothingDue := by
  intro s
  have idle : ∀ k, (s.scales.get k).state = .idle := by decide +kernel
  refine ⟨fun k d h _ => ?_, ?_, ?_, ?_, ?_, ?_⟩
  · have h' : (s.scales.get k).state = .taring ∨ (s.scales.get k).state = .capturing := h
    simp [idle] at h'
  · exact fun r h => absurd h (by simp [s, pressSide, mounted, State.reset, Ltr.reset])
  · exact fun h => absurd h (by decide +kernel)
  · exact fun d h => absurd h (by simp [s, pressSide, mounted, State.reset, Dmi.reset])
  · simp
  · decide +kernel

/-! ### Witnesses: the lock, the demould and the ring -/

theorem witness_TheLockPassesBetweenTheParties :
    State.reset.dmi.holder = .free ∧ (demoulding cavityCuring engagedOnce .handler).dmi.holder = .handler ∧
      (pressSide .closing (cavity .loaded) .press).dmi.holder = .press ∧
      (demoulding cavityCuring engagedOnce .handler).shc.press = some (shot .opened cavityCuring) ∧
      (assembling Cavity.fresh .handler []).shc.press = none := by decide +kernel

theorem witness_EjectionWaitsForEngaged :
    (demoulding cavityCuring engagedOnce .handler).dmi.demould = some engagedOnce ∧
      (shot .opened cavityCuring).phase = .opened ∧ engagedOnce.count < 65535 ∧ engagedOnce.grant = false ∧
      engagedOnce.engaged = true ∧ ({ engagedOnce with engaged := false } : Demould).heldEject = false ∧
      ({ engagedOnce with engaged := false, heldEject := true } : Demould).heldEject = true ∧
      ({ engagedOnce with grant := true } : Demould).grant = true ∧ 65535 ≤ ({ engagedOnce with count := 65535 } : Demould).count ∧
      State.reset.dmi.demould = none := by decide +kernel

theorem witness_PartsLeaveTheMouldAndAreSealed :
    let s := demoulding cavityCuring engagedOnce .handler
    4 ≤ (4 : BitVec 8).toNat ∧ 2 ≤ (2 : BitVec 8).toNat ∧ s.shc.press = some (shot .opened cavityCuring) ∧
      s.dmi.demould = some engagedOnce ∧ s.recipe = some recipe ∧ s.dmi.holder = .handler ∧ engagedOnce.engaged = true ∧
      cavityCuring.state = .curing ∧ engagedOnce.engageMark < engagedOnce.count ∧ cavityCuring.failMark = none ∧
      (shot .opened cavityCuring).times.opening = some 3610 ∧ 3610 ≤ s.clock ∧
      cavityCuring.attempts.getD 0 + 1 ≠ recipe.takeLimit ∧
      ({ cavityCuring with attempts := some 1 } : Cavity).attempts.getD 0 + 1 = recipe.takeLimit ∧
      engagedOnce.lateGiven = false ∧ s.clock < engagedOnce.deadline ∧ engagedOnce.deadline ≤ ({ s with clock := 3650 } : State).clock ∧
      (cavity .stuck).state = .stuck ∧ s.dmi.holder ≠ .press ∧ s.hrg.slots.get (slotOf 1) = .reserved 1 := by decide +kernel

/-- Cure fields of each disposition of R161: short of the target, over the limit, blind, and GOOD. -/
theorem witness_PartsLeaveTheMouldAndAreSealed_judged :
    let judged := fun (u : Cure) =>
      let p := partRecord mounted recipe (shot .opened cavityCuring) 0 { cavityCuring with cure := some u } charge
      (p.disposition, p.overcured, p.cureUnverified)
    judged { Cure.start with index := 8999 } = (.scrap, false, false) ∧
      judged { Cure.start with index := 9000 } = (.good, false, false) ∧
      judged { Cure.start with index := 11000, blind := 5 } = (.good, false, false) ∧
      judged { Cure.start with index := 11001 } = (.suspect, true, false) ∧
      judged { Cure.start with index := 9000, blind := 6 } = (.suspect, false, true) := by decide +kernel

theorem witness_TheRingIsReadAndCollected :
    State.reset.ports.heldFetch = none ∧ (0 : BitVec 8) = 0 ∧ (128 : BitVec 8).toNat ≤ 128 ∧
      State.reset.newest < (1 : BitVec 32).toNat := by decide +kernel

end Sys2Proof.Tests
end

section
/-! PROOFS. The heat budget at a frame boundary: the frame within its budget (R44) and the throttle state (R45, R46). -/

namespace Sys2Proof.Machine

/-! ### Sums over the zones and over a class -/

theorem sumZones_eq_sum (f : Fin 12 → Nat) : sumZones f = ∑ z, f z :=
  (Fin.sum_univ_def f).symm

theorem sumZones_mono {f g : Fin 12 → Nat} (h : ∀ z, f z ≤ g z) : sumZones f ≤ sumZones g := by
  simpa only [sumZones_eq_sum] using Finset.sum_le_sum fun z _ => h z

theorem sumZones_mul (k : Nat) (f : Fin 12 → Nat) : sumZones (fun z => k * f z) = k * sumZones f := by
  simp only [sumZones_eq_sum, Finset.mul_sum]

theorem classSum_mono (rank : Fin 12 → Nat) (c : Nat) {f g : Fin 12 → Nat} (h : ∀ z, rank z = c → f z ≤ g z) :
    classSum rank f c ≤ classSum rank g c := by
  refine sumZones_mono fun z => ?_
  split
  · exact h z ‹_›
  · exact le_rfl

theorem classSum_mul (rank : Fin 12 → Nat) (k : Nat) (f : Fin 12 → Nat) (c : Nat) :
    classSum rank (fun z => k * f z) c = k * classSum rank f c := by
  simp only [classSum, ← sumZones_mul, mul_ite, mul_zero]

/-- The three classes together are all the zones (R41). -/
theorem sumZones_eq_classes {rank : Fin 12 → Nat} (ranked : ∀ z, rank z < 3) (f : Fin 12 → Nat) :
    sumZones f = classSum rank f 0 + classSum rank f 1 + classSum rank f 2 := by
  simp only [classSum, sumZones_eq_sum, ← Finset.sum_add_distrib]
  refine Finset.sum_congr rfl fun z _ => ?_
  have hz := ranked z
  interval_cases rank z <;> simp

/-- A zone's class is 0, 1 or 2 (R41). -/
theorem State.rankOf_lt (s : State) (z : Fin 12) : s.rankOf z < 3 := by
  unfold State.rankOf
  split
  · omega
  · split <;> omega

/-! ### A zone's demand against its request -/

/-- A zone in OFF or FAULT leaves a boundary's stages with no demand (R25). -/
theorem Zone.boundary_demand_idle {x : Zone} {j : Judged} {m : Int} {band now : Nat}
    (idle : (x.boundary j m band now).mode = .off ∨ (x.boundary j m band now).mode = .fault) :
    (x.boundary j m band now).demand = 0 := by
  rw [Zone.boundary_mode] at idle
  rcases idle with h | h <;> simp [Zone.boundary, Zone.markReady, Zone.computeDemand, Zone.withDemand, h]

/-- A zone's request covers its demand in thousandths of its rated power: it is rounded up, and an idle zone demands nothing
(R25, R40). -/
theorem Zone.boundary_demand_le_request (x : Zone) (j : Judged) (m : Int) (band now : Nat) :
    (x.boundary j m band now).demand * (x.boundary j m band now).active.power ≤ 1000 * (x.boundary j m band now).request := by
  have idle := @Zone.boundary_demand_idle x j m band now
  generalize x.boundary j m band now = y at idle ⊢
  cases h : y.mode with
  | auto => simp only [Zone.request, h]; omega
  | manual => simp only [Zone.request, h]; omega
  | off => simp [idle (.inl h)]
  | fault => simp [idle (.inr h)]

/-- The integrator stage keeps the zone's setup (R18). -/
@[simp] theorem Zone.integrate_active (x : Zone) (j : Judged) (m : Int) (cut : Bool) :
    (x.integrate j m cut).active = x.active := by
  unfold Zone.integrate; split <;> rfl

/-- The rated power a boundary leaves is the one it allocated by (R18, R40). -/
theorem State.finalZones_active (s : State) (z : Fin 12) :
    (s.finalZones.get z).active = (s.boundaryZones.get z).active := by
  simp [State.finalZones]

theorem State.boundary_demand_le_request (s : State) (z : Fin 12) :
    (s.boundaryZones.get z).demand * (s.boundaryZones.get z).active.power ≤ 1000 * (s.boundaryZones.get z).request := by
  simpa only [State.boundaryZones, Table.get_mapIdx] using Zone.boundary_demand_le_request ..

/-! ### What the allocation spends -/

/-- One class's turn spends no more than it takes off the amount left, where each zone's request covers its demand (R42): the
factor of 4096ths is rounded down, and so is each grant under it. -/
theorem allotClass_spends {rank request demand power : Fin 12 → Nat} (covered : ∀ z, demand z * power z ≤ 1000 * request z)
    (c a : Nat) (cut : Bool) :
    let turn := allotClass (classSum rank request c) a cut
    classSum rank (fun z => turn.1.grant (demand z) * power z) c + 1000 * turn.2.1 ≤ 1000 * a := by
  have whole : classSum rank (fun z => demand z * power z) c ≤ 1000 * classSum rank request c := by
    rw [← classSum_mul]
    exact classSum_mono _ _ fun z _ => covered z
  unfold allotClass
  split
  · simp [Allotment.grant, classSum, sumZones_eq_sum]
  split
  · simp only [Allotment.grant]; omega
  split
  · simp only [Allotment.grant]; omega
  · generalize classSum rank request c = rc at *
    generalize hf : a * 4096 / rc = f
    have factor : rc * f ≤ a * 4096 := hf ▸ Nat.mul_div_le ..
    have scaled : 4096 * classSum rank (fun z => demand z * f / 4096 * power z) c ≤
        f * classSum rank (fun z => demand z * power z) c := by
      simp only [← classSum_mul]
      refine classSum_mono _ _ fun z _ => ?_
      calc 4096 * (demand z * f / 4096 * power z) = 4096 * (demand z * f / 4096) * power z := (mul_assoc ..).symm
        _ ≤ demand z * f * power z := Nat.mul_le_mul_right _ (Nat.mul_div_le ..)
        _ = f * (demand z * power z) := by ring
    have spent := scaled.trans (Nat.mul_le_mul_left f whole)
    simp only [Allotment.grant]
    have : f * (1000 * rc) = 1000 * (rc * f) := by ring
    omega

/-- The grants of the three classes, each times rated power, stay within the budget (R42, R44). -/
theorem allotAll_spends {rank request demand power : Fin 12 → Nat} (ranked : ∀ z, rank z < 3)
    (covered : ∀ z, demand z * power z ≤ 1000 * request z) (budget : Nat) :
    let a := allotAll budget (classSum rank request 0) (classSum rank request 1) (classSum rank request 2)
    sumZones (fun z => (allotmentOf a (rank z)).grant (demand z) * power z) ≤ 1000 * budget := by
  intro a
  have ofClass (c : Nat) : classSum rank (fun z => (allotmentOf a (rank z)).grant (demand z) * power z) c ≤
      classSum rank (fun z => (allotmentOf a c).grant (demand z) * power z) c :=
    classSum_mono _ _ fun z hz => by rw [hz]
  have total := add_le_add (add_le_add (ofClass 0) (ofClass 1)) (ofClass 2)
  rw [← sumZones_eq_classes ranked] at total
  refine total.trans ?_
  have s0 := allotClass_spends (rank := rank) covered 0 budget false
  generalize ha0 : allotClass (classSum rank request 0) budget false = c0 at s0
  have s1 := allotClass_spends (rank := rank) covered 1 c0.2.1 c0.2.2
  generalize ha1 : allotClass (classSum rank request 1) c0.2.1 c0.2.2 = c1 at s1
  have s2 := allotClass_spends (rank := rank) covered 2 c1.2.1 c1.2.2
  simp only [a, allotAll, allotmentOf, ha0, ha1] at s0 s1 s2 ⊢
  simp only [if_true, if_false, one_ne_zero, OfNat.ofNat_ne_zero, OfNat.ofNat_ne_one]
  omega

/-- A boundary's grants times rated power stay within the effective budget (R42, R44). -/
theorem State.grants_within_budget (s : State) :
    sumZones (fun z => s.grantOf z * (s.boundaryZones.get z).active.power) ≤ 1000 * s.effectiveBudget :=
  allotAll_spends s.rankOf_lt s.boundary_demand_le_request s.effectiveBudget

/-- An on-count is its grant's thousandths of the frame, rounded down (R47). -/
theorem onCountOf_mul_le (grant frame power : Nat) :
    1000 * (onCountOf grant frame * power) ≤ frame * (grant * power) :=
  calc 1000 * (grant * frame / 1000 * power) = 1000 * (grant * frame / 1000) * power := (mul_assoc ..).symm
    _ ≤ grant * frame * power := Nat.mul_le_mul_right _ (Nat.mul_div_le ..)
    _ = frame * (grant * power) := by ring

/-- The frame a boundary begins stays within its budget (R44). -/
theorem State.onCounts_within_budget (s : State) :
    sumZones (fun z => (s.boundaryShare z).onCount * (s.finalZones.get z).active.power) ≤
      s.effectiveBudget * s.hbo.requestedLength := by
  have counts : 1000 * sumZones (fun z => (s.boundaryShare z).onCount * (s.finalZones.get z).active.power) ≤
      s.hbo.requestedLength * sumZones (fun z => s.grantOf z * (s.boundaryZones.get z).active.power) := by
    simp only [← sumZones_mul, s.finalZones_active]
    exact sumZones_mono fun z => onCountOf_mul_le ..
  have grants := Nat.mul_le_mul_left s.hbo.requestedLength s.grants_within_budget
  have : s.hbo.requestedLength * (1000 * s.effectiveBudget) = 1000 * (s.effectiveBudget * s.hbo.requestedLength) := by ring
  omega

/-! ### What a cut tells of the requests -/

/-- What the amount left and the cut mark tell between two classes' turns, `used` being the requests of the classes that have had
theirs: until a class is cut the amount left is the budget without them, and then they exceed the budget (R42). -/
def TurnSound (budget used left : Nat) (cut : Bool) : Prop :=
  if cut then budget < used else left + used = budget

/-- A class's turn keeps it (R42). -/
theorem allotClass_sound {budget used left : Nat} {cut : Bool} (rc : Nat) (h : TurnSound budget used left cut) :
    TurnSound budget (used + rc) (allotClass rc left cut).2.1 (allotClass rc left cut).2.2 := by
  unfold TurnSound at *
  unfold allotClass
  cases cut with
  | true => simp at h ⊢; omega
  | false =>
    simp only [Bool.false_eq_true, if_false] at h ⊢
    split
    · simp; omega
    split
    · simp; omega
    · simp; omega

/-- A class granted less than its demand leaves the cut mark set (R42). -/
theorem allotClass_cut {rc left d : Nat} {cut : Bool} (h : (allotClass rc left cut).1.grant d < d) :
    (allotClass rc left cut).2.2 = true := by
  unfold allotClass at *
  split at h
  · simp [*]
  split at h
  · exact absurd h (lt_irrefl _)
  split at h
  · exact absurd h (lt_irrefl _)
  · simp [*]

/-- A class is granted less than its demand only where the requests exceed the budget (R42). -/
theorem allotAll_cut {budget r0 r1 r2 rank d : Nat} (h : (allotmentOf (allotAll budget r0 r1 r2) rank).grant d < d) :
    budget < r0 + r1 + r2 := by
  have exceeded {used left : Nat} {cut : Bool} (sound : TurnSound budget used left cut) (c : cut = true) : budget < used := by
    simpa [TurnSound, c] using sound
  have start : TurnSound budget 0 budget false := by simp [TurnSound]
  have s0 := allotClass_sound r0 start
  have s1 := allotClass_sound r1 s0
  have s2 := allotClass_sound r2 s1
  rw [zero_add] at s0 s1 s2
  unfold allotmentOf at h
  split at h
  · have := exceeded s0 (allotClass_cut h); omega
  · split at h
    · have := exceeded s1 (allotClass_cut h); omega
    · exact exceeded s2 (allotClass_cut h)

/-- A zone is cut only where the total request exceeds the effective budget (R40, R42, R43). -/
theorem State.budget_lt_of_cut {s : State} {z : Fin 12} (h : (s.boundaryShare z).cut = true) :
    s.effectiveBudget < s.boundaryRequest := by
  have less : s.grantOf z < (s.boundaryZones.get z).demand := of_decide_eq_true h
  rw [State.boundaryRequest, sumZones_eq_classes s.rankOf_lt]
  exact allotAll_cut less

/-! ### The throttle state -/

theorem Throttle.next_normal_iff (total budget hysteresis : Nat) :
    Throttle.normal.next total budget hysteresis = .throttled ↔ budget < total := by
  simp [Throttle.next]

theorem Throttle.next_throttled_iff (total budget hysteresis : Nat) :
    Throttle.throttled.next total budget hysteresis = .normal ↔ total * 1000 ≤ budget * (1000 - hysteresis) := by
  simp [Throttle.next]

/-- Requests over the budget throttle, whatever the state was: the release bound lies at or below the budget (R45). -/
theorem Throttle.next_of_over (t : Throttle) {total budget : Nat} (hysteresis : Nat) (exceeded : budget < total) :
    t.next total budget hysteresis = .throttled := by
  cases t with
  | normal => exact (next_normal_iff ..).mpr exceeded
  | throttled =>
    have release : budget * (1000 - hysteresis) ≤ budget * 1000 := Nat.mul_le_mul_left _ (Nat.sub_le ..)
    have : ¬ total * 1000 ≤ budget * (1000 - hysteresis) := by omega
    simp [Throttle.next, this]

/-! ### The ports through the examination of a held close -/

/-- Examining a held close sets no notice at the trace port (R110, R111). -/
@[simp] theorem reexamine_trace (s : State) : (reexamine s).ports.trace = s.ports.trace := by
  rcases reexamine_cases s with e | ⟨h, a, why, held, -, e⟩ | ⟨h, sh, -, -, -, assembling, e⟩
  · rw [e]
  · rw [e, endClose_some why held]; rfl
  · rw [e, grantClose, assembling]; rfl

/-- Examining a held close sets at most one notice at the press port, so the newest before it is still there (R110, R171). -/
theorem newest_mem_reexamine {s : State} {n : Notice} (newest : s.ports.press.notices.getLast? = some n) :
    n ∈ (reexamine s).ports.press.notices := by
  have joined (q : PortState) (b : Notice) (hq : q.notices.getLast? = some n) : n ∈ (q.join b).notices := by
    have suffix : [n] <:+ q.notices := by
      obtain ⟨old, e⟩ := List.getLast?_eq_some_iff.mp hq
      exact ⟨old, e.symm⟩
    exact (q.join_suffix b suffix (by simp [Config.noticeRoom])).subset (by simp)
  rcases reexamine_cases s with e | ⟨h, a, why, held, -, e⟩ | ⟨h, sh, -, -, -, assembling, e⟩
  · rw [e]; exact List.mem_of_getLast? newest
  · rw [e, endClose_some why held]; exact joined _ _ newest
  · rw [e, grantClose, assembling]; exact joined _ _ newest

/-! ### What a boundary leaves -/

/-- A boundary's figures, whether or not a held close is examined after them (R18, R39). -/
theorem frameBoundary_hbo_eq (s : State) : (frameBoundary s).hbo = s.boundaryHbo := by
  rw [frameBoundary_eq]
  split
  · rw [reexamine_hbo]; rfl
  · rfl

theorem frameBoundary_zones (s : State) : (frameBoundary s).zct.zones = s.finalZones := by
  rw [frameBoundary_eq]
  split
  · rw [reexamine_zct]; rfl
  · rfl

/-- A boundary sets THROTTLE at the trace port where its throttle state changes, and nothing else there (R46). -/
theorem frameBoundary_trace (s : State) :
    (frameBoundary s).ports.trace = (s.told .trace s.throttleTold).ports.trace := by
  rw [frameBoundary_eq]
  split
  · rw [reexamine_trace]; rfl
  · rfl

/-- The THROTTLE notice of a boundary is at the press port after it (R46). -/
theorem frameBoundary_press_throttle {s : State} (changed : s.boundaryThrottle ≠ s.hbo.throttle) :
    ⟨.throttle s.boundaryThrottle s.effectiveBudget s.boundaryRequest, s.clock⟩ ∈
      (frameBoundary s).ports.press.notices := by
  rw [frameBoundary_eq, if_pos (.inl changed)]
  apply newest_mem_reexamine
  simp only [State.boundaryLoaded, State.throttleTold, if_pos changed, State.told_append]
  generalize he : s.told .press _ = u
  have clock : u.clock = s.clock := by rw [← he, State.told_eq]
  rw [← clock]
  exact setNotice_newest .press _ u

/-- The THROTTLE notice of a boundary is the newest at the trace port after it (R46). -/
theorem frameBoundary_trace_throttle {s : State} (changed : s.boundaryThrottle ≠ s.hbo.throttle) :
    (frameBoundary s).Newest .trace (.throttle s.boundaryThrottle s.effectiveBudget s.boundaryRequest) := by
  have trace := frameBoundary_trace s
  rw [State.throttleTold, if_pos changed] at trace
  rw [State.Newest, frameBoundary_clock, Ports.get, trace]
  exact setNotice_newest .trace _ s

/-- A boundary that keeps the throttle state leaves the trace port alone (R46). -/
theorem frameBoundary_trace_quiet {s : State} (kept : s.boundaryThrottle = s.hbo.throttle) :
    (frameBoundary s).ports.trace = s.ports.trace := by
  rw [frameBoundary_trace, State.throttleTold, if_neg (not_not.mpr kept)]
  rfl

/-! ### The pulse that is a boundary -/

/-- The state whose boundary a pulse works: after a loss of the mains, their return has been told (R51). -/
def State.powered (s : State) : State :=
  if s.hbo.mains = .lost then
    setNotice .press (.mains .present) { s with hbo := { s.hbo with mains := .present } }
  else s

@[simp] theorem State.powered_clock (s : State) : s.powered.clock = s.clock := by
  unfold State.powered; split <;> rfl

@[simp] theorem State.powered_throttle (s : State) : s.powered.hbo.throttle = s.hbo.throttle := by
  unfold State.powered; split <;> rfl

@[simp] theorem State.powered_hysteresis (s : State) : s.powered.hbo.hysteresis = s.hbo.hysteresis := by
  unfold State.powered; split <;> rfl

@[simp] theorem State.powered_trace (s : State) : s.powered.ports.trace = s.ports.trace := by
  unfold State.powered; split <;> rfl

/-- A pulse sent as a frame boundary, where it is one, works the boundary of the powered state (R48, R51). -/
theorem exec_frameBoundary {s : State} (h : s.PulseIsBoundary) :
    exec .frameBoundary s = .next (frameBoundary s.powered) :=
  congrArg Host.Outcome.next (pulse_boundary h)

/-- Settles O33: the allocation spends at most the budget on the grants, and the on-counts are the grants rounded down. -/
theorem frameStaysWithinBudget : Obligations.FrameStaysWithinBudget := by
  intro s boundary
  refine ⟨_, exec_frameBoundary boundary, ?_⟩
  simpa only [frameBoundary_hbo_eq, frameBoundary_zones, State.boundaryHbo, Table.get_ofFn] using
    s.powered.onCounts_within_budget

/-- Settles O34: the table of R45 is the step of the throttle state, a cut zone means requests over the budget, and the notice is
the last the boundary itself sets at both ports. -/
theorem throttleFollowsRequests : Obligations.ThrottleFollowsRequests := by
  intro s boundary
  refine ⟨_, exec_frameBoundary boundary, ?_⟩
  have throttle : s.powered.boundaryThrottle =
      s.hbo.throttle.next s.powered.boundaryRequest s.powered.effectiveBudget s.hbo.hysteresis := by
    simp [State.boundaryThrottle]
  simp only [frameBoundary_hbo_eq, State.boundaryHbo, Table.get_ofFn]
  refine ⟨fun normal => ?_, fun throttled => ?_, fun ⟨z, cut⟩ => ?_, fun changed => ?_, fun kept => ?_⟩
  · rw [throttle, normal]; exact Throttle.next_normal_iff ..
  · rw [throttle, throttled]; exact Throttle.next_throttled_iff ..
  · rw [throttle]; exact Throttle.next_of_over _ _ (State.budget_lt_of_cut cut)
  · rw [← s.powered_throttle] at changed
    exact ⟨frameBoundary_trace_throttle changed, s.powered_clock ▸ frameBoundary_press_throttle changed⟩
  · rw [← s.powered_throttle] at kept
    exact (frameBoundary_trace_quiet kept).trans s.powered_trace

end Sys2Proof.Machine
end

section
/-! PROOFS. The cure rate of a recipe's rate table (R127). -/

namespace Sys2Proof.Table

theorem drop_eq_get_cons {α : Type} {n : Nat} (table : Table α n) (i : Fin n) :
    table.toList.drop i = table.get i :: table.toList.drop (i + 1) :=
  List.drop_eq_getElem_cons _

end Sys2Proof.Table

namespace Sys2Proof.Machine

/-! ### The rate in a list of breakpoints -/

theorem rateOf_of_below {a : Breakpoint} {t : Int} (below : t < a.temp) (rest : List Breakpoint) :
    rateOf (a :: rest) t = 0 := by
  cases rest <;> simp [rateOf, below]

theorem rateOf_singleton {b : Breakpoint} {t : Int} (reached : b.temp ≤ t) : rateOf [b] t = b.rate := by
  simp [rateOf, reached.not_gt]

theorem rateOf_of_between {a b : Breakpoint} {t : Int} (reached : a.temp ≤ t) (below : t < b.temp)
    (rest : List Breakpoint) : rateOf (a :: b :: rest) t = interpolate a b t := by
  simp [rateOf, reached.not_gt, below]

theorem rateOf_of_passed {a b : Breakpoint} {t : Int} (passed : a.temp ≤ t) (reached : b.temp ≤ t)
    (rest : List Breakpoint) : rateOf (a :: b :: rest) t = rateOf (b :: rest) t := by
  simp [rateOf, passed.not_gt, reached.not_gt]

/-- The breakpoints before one that is reached, all of them reached, do not matter to the rate (R127). -/
theorem rateOf_append {front rest : List Breakpoint} {b : Breakpoint} {t : Int} (passed : ∀ a ∈ front, a.temp ≤ t)
    (reached : b.temp ≤ t) : rateOf (front ++ b :: rest) t = rateOf (b :: rest) t := by
  induction front with
  | nil => rfl
  | cons a front ih =>
    obtain ⟨first, others⟩ := List.forall_mem_cons.mp passed
    rw [← ih others]
    cases front with
    | nil => exact rateOf_of_passed first reached rest
    | cons c front => exact rateOf_of_passed first (others c List.mem_cons_self) _

/-- Where rates do not fall, the line between two breakpoints stays at or above the lower rate: no negative figure is lost. -/
theorem interpolate_cast {a b : Breakpoint} {t : Int} (reached : a.temp ≤ t) (temps : a.temp ≤ b.temp)
    (rates : a.rate ≤ b.rate) :
    (interpolate a b t : Int) = a.rate + ((t - a.temp) * (b.rate - a.rate)).tdiv (b.temp - a.temp) := by
  have quotient : 0 ≤ ((t - a.temp) * ((b.rate : Int) - a.rate)).tdiv (b.temp - a.temp) :=
    Int.tdiv_nonneg (mul_nonneg (by omega) (by omega)) (by omega)
  exact Int.toNat_of_nonneg (by omega)

/-! ### The rate in a table -/

/-- In a table of rising temperatures the rate is found among the breakpoints from any reached one on (R127). -/
theorem rateOf_eq_drop {n : Nat} {table : Table Breakpoint n} {t : Int} (rising : StrictMono fun i => (table.get i).temp)
    {i : Fin n} (reached : (table.get i).temp ≤ t) : rateOf table.toList t = rateOf (table.toList.drop i) t := by
  have passed : ∀ a ∈ table.toList.take i, a.temp ≤ t := fun a mem => by
    obtain ⟨k, bound, rfl⟩ := List.mem_take_iff_getElem.mp mem
    have before : k < i.val := by omega
    exact (rising.monotone (show (⟨k, before.trans i.isLt⟩ : Fin n) ≤ i from before.le)).trans reached
  calc rateOf table.toList t
      = rateOf (table.toList.take i ++ table.toList.drop i) t := by rw [List.take_append_drop]
    _ = rateOf (table.toList.drop i) t := by rw [table.drop_eq_get_cons i, rateOf_append passed reached]

/-- Settles O55: from the last breakpoint reached on, each row of R127's table is one step of the search. -/
theorem rateFollowsTheTable : Obligations.RateFollowsTheTable := by
  intro table t temps rates
  have rising : StrictMono fun i => (table.get i).temp := fun i j => temps i j
  refine ⟨fun below => ?_, fun reached => ?_, fun i j adjacent reached below => ?_⟩
  · have whole : table.toList = table.get 0 :: table.toList.drop 1 := table.drop_eq_get_cons 0
    rw [whole, rateOf_of_below below]
  · have last : table.toList.drop (7 : Fin 8) = [table.get 7] := by
      rw [table.drop_eq_get_cons 7]
      exact congrArg _ (List.drop_eq_nil_of_le table.size_eq.le)
    rw [rateOf_eq_drop rising reached, last, rateOf_singleton reached]
  · have less : i < j := by omega
    rw [rateOf_eq_drop rising reached, table.drop_eq_get_cons i, adjacent, table.drop_eq_get_cons j,
      rateOf_of_between reached below, interpolate_cast reached (temps i j less).le (rates i j less)]

end Sys2Proof.Machine
end

section
/-! PROOFS. The station ports' own requests: PORT SETUP and the framing of its reply (R175). -/

namespace Sys2Proof.Machine

/-! ### A setup value's status -/

/-- A setup request of one value answers CLAMPED exactly where the value was out of its range (0.6). -/
theorem setupStatus_clampNat {lo hi : Nat} (v : Nat) (h : lo ≤ hi) :
    setupStatus (clampNat lo hi v ≠ v) = clampStatus lo hi v := by
  unfold setupStatus clampStatus
  simp only [clampNat_ne_iff v h, decide_eq_true_eq, ite_not]

/-! ### The ports after a reply -/

@[simp] theorem State.replied_get_self (s t : State) (p : Port) (a : Answer) :
    (s.replied p a t).ports.get p =
      { t.ports.get p with
        lastStatus := some a.status, reply := some ⟨(s.ports.get p).turnaround, a.status, a.fields⟩ } :=
  State.modifyPort_get_self ..

theorem State.replied_get_ne (s t : State) {p q : Port} (a : Answer) (h : q ≠ p) :
    (s.replied p a t).ports.get q = t.ports.get q :=
  State.modifyPort_get_ne _ _ h

/-! ### PORT SETUP -/

/-- The owner of PORT SETUP: the setting at the nearer limit of 1 to 4, which the answer carries (R175). -/
theorem portSetup_eq (p : Port) (v : BitVec 8) (s : State) :
    portSetup p v s =
      (s.modifyPort p fun x => { x with turnaround := nearest 1 4 v.toNat },
        ⟨clampStatus 1 4 v.toNat, be 1 (nearest 1 4 v.toNat)⟩) := by
  have range : 1 ≤ 4 := by decide
  rw [← setupStatus_clampNat _ range, ← clampNat_eq_nearest _ range]
  rfl

/-- PORT SETUP may be asked on every port (10.3). -/
theorem portSetup_permitted (p : Port) : Command.permitted .portSetup p = true := by
  cases p <;> rfl

/-- PORT SETUP outside held fetch: its owner decides it, and the reply is framed at the state before (R169, R175). -/
theorem exec_portSetup {p : Port} (v : BitVec 8) {s : State} (free : s.inHeldFetch p = false) :
    exec (.portSetup p v) s = .next (s.replied p ⟨clampStatus 1 4 v.toNat, be 1 (nearest 1 4 v.toNat)⟩
      (s.modifyPort p fun x => { x with turnaround := nearest 1 4 v.toNat })) := by
  have taken := transact_taken s (portSetup p v) free (portSetup_permitted p)
  rw [portSetup_eq] at taken
  exact congrArg Host.Outcome.next taken

/-- Settles O17: the new setting is written before the reply, which is still framed by the state the transaction was taken at. -/
theorem portSetupWritesTheTurnaround : Obligations.PortSetupWritesTheTurnaround := by
  intro p v s free
  refine ⟨_, exec_portSetup v free, ?_⟩
  rw [State.replied_get_self, State.modifyPort_get_self]
  refine ⟨rfl, rfl, rfl, rfl, rfl, fun q other => ?_, rfl⟩
  rw [State.replied_get_ne _ _ _ other, State.modifyPort_get_ne _ _ other]

end Sys2Proof.Machine
end

section
/-! PROOFS. One step, command by command: what a command does to the part apart from the answer on its port, and the principle
by which a promise that no answer touches is kept by every step. Then the queue and the reset line. -/

namespace Sys2Proof.Machine

/-! ### States that differ in answers alone -/

/-- `t` differs from `s` in what answers write alone: replies, last statuses, turnarounds and held fetch, with every notice set as it
was. -/
def State.Answered (s t : State) : Prop :=
  { t with ports := s.ports } = s ∧ ∀ p, (t.ports.get p).notices = (s.ports.get p).notices

theorem State.Answered.refl (s : State) : s.Answered s :=
  ⟨rfl, fun _ => rfl⟩

theorem State.Answered.trans {s t u : State} (h : s.Answered t) (g : t.Answered u) : s.Answered u := by
  refine ⟨?_, fun p => (g.2 p).trans (h.2 p)⟩
  rw [← h.1, ← g.1]

theorem State.Answered.clock {s t : State} (h : s.Answered t) : t.clock = s.clock := (congrArg State.clock h.1 :)
theorem State.Answered.hbo {s t : State} (h : s.Answered t) : t.hbo = s.hbo := (congrArg State.hbo h.1 :)
theorem State.Answered.scales {s t : State} (h : s.Answered t) : t.scales = s.scales := (congrArg State.scales h.1 :)
theorem State.Answered.ltr {s t : State} (h : s.Answered t) : t.ltr = s.ltr := (congrArg State.ltr h.1 :)
theorem State.Answered.shc {s t : State} (h : s.Answered t) : t.shc = s.shc := (congrArg State.shc h.1 :)
theorem State.Answered.dmi {s t : State} (h : s.Answered t) : t.dmi = s.dmi := (congrArg State.dmi h.1 :)
theorem State.Answered.hrg {s t : State} (h : s.Answered t) : t.hrg = s.hrg := (congrArg State.hrg h.1 :)

/-- A port's own state changed apart from its notices. -/
theorem State.answered_modifyPort (s : State) (p : Port) {f : PortState → PortState}
    (kept : ∀ q, (f q).notices = q.notices) : s.Answered (s.modifyPort p f) := by
  refine ⟨rfl, fun q => ?_⟩
  by_cases h : q = p
  · subst h; rw [State.modifyPort_get_self, kept]
  · rw [State.modifyPort_get_ne _ _ h]

theorem answer_answered (p : Port) (n : Nat) (a : Answer) (s : State) : s.Answered (answer p n a s) :=
  s.answered_modifyPort p fun _ => rfl

theorem State.answered_heldFetch (s : State) (next : Option Nat) :
    s.Answered { s with ports := { s.ports with heldFetch := next } } :=
  ⟨rfl, fun p => by cases p <;> rfl⟩

theorem takeCount_answered (count : Nat) (s : State) : s.Answered (takeCount count s) := by
  unfold takeCount
  split
  · exact .refl s
  · split <;> exact (s.answered_heldFetch _).trans (answer_answered ..)

theorem truncated_answered (p : Port) (s : State) : s.Answered (truncated p s) := by
  unfold truncated
  split
  · exact .refl s
  · exact s.answered_modifyPort p fun _ => rfl

theorem unknown_answered (p : Port) (b : Byte) (s : State) : s.Answered (unknown p b s) := by
  unfold unknown
  split
  · exact takeCount_answered ..
  · exact answer_answered ..

/-! ### What a command can do, its answer apart -/

/-- The changes that a command can bring about in a state, the answer on its port apart: one constructor for each change, with what
its owner has checked before. -/
inductive Change (s : State) : State → Prop
  | kept : Change s s
  | reset : Change s { State.reset with freeCount := s.freeCount, pending := s.pending }
  | second : Change s (secondStep s)
  | tcArrived (channel : Nat) (st : TcResult) (value : Int) : Change s (arriveTc channel st value s)
  | lcArrived (channel : Nat) (st : LcResult) (count : Int) : Change s (arriveLc channel st count s)
  | expired (link : Converter) : Change s (expireConversion link s)
  | lostReply (link : Converter) (why : Unusable) : Change s (unusable link why s)
  | pulsed : Change s (pulse s)
  | mainsLost : Change s (loseMains s)
  /-- MEASURE SETUP, and the zones' setups, modes and heat mode where no notice is set. -/
  | measured (limit : Nat) : Change s { s with msq := { s.msq with staleLimit := limit } }
  | heated (zct : Zct) : Change s { s with zct := zct }
  | standby : Change s (enterStandby s)
  | production (emptySince : Option Nat) : Change s (enterProduction emptySince s)
  | budgeted (base curtailment hysteresis requested : Nat) : Change s { s with hbo := { s.hbo with
      baseBudget := base, curtailment := curtailment, hysteresis := hysteresis, requestedLength := requested } }
  /-- A scale's settings, the start of a tare, of a session or of a capture. -/
  | weighed (n : Nat) (k : Fin 2) (f : Scale → Scale) (lot : ∀ x, (f x).currentLot = x.currentLot) :
      Change s (State.modifyScale { s with freeCount := n } k f)
  | tareEnded (k : Fin 2) : Change s (timeoutTare k s)
  | captureEnded (k : Fin 2) : Change s (timeoutCapture k s)
  | racked (position : Nat) (k : Fin 2) (e : Session) (free : lowestFree s.ltr.rack = some position) :
      Change s (closeInto position k e s).1
  | abandoned (k : Fin 2) (e : Session) : Change s (abandonSession k e s)
  | sessionScrapped (r : ScrapRecord) (k : Fin 2) (e : Session) (free : s.canIssue = true) :
      Change s (scrapNow r (abandonSession k e s))
  | redeclared (k : Fin 2) (lot : Nat) : Change s (makeCurrent k lot (s.modifyLot lot fun x => x.redeclare k s.clock))
  | learned (k : Fin 2) (lot material minutes : Nat) (room : List Lot) (unknown : s.lot? lot = none)
      (fits : s.roomForLot = some room) : Change s (makeCurrent k lot (learnLot k lot material minutes room s).1)
  | agingSet (period : Nat) : Change s { s with ltr := { s.ltr with agingPeriod := period } }
  | aged (lot : Nat) : Change s (ageLot lot s)
  | chargeExpired (charge : Nat) : Change s (expireCharge charge s)
  | rackScrapped (r : ScrapRecord) (charge : Nat) (free : s.canIssue = true) : Change s (scrapNow r (s.leaveRack charge))
  | staged (k : Fin 4) (r : RackRecord) (free : s.canIssue = true) : Change s (stage k r s)
  | returned (k : Fin 4) (r : RackRecord) (sequence : Nat) : Change s (returnStaged k r sequence s)
  | recipeWritten (i : Fin 8) (r : Recipe) : Change s (s.setRecipe i r)
  | mounted (m : Option (Fin 8)) : Change s (setMount m s)
  | stationSet (station : Nat) : Change s { s with shc := { s.shc with station := station } }
  | armed (slot : Fin 8) (r : Recipe) (mask : BitVec 8) (free : s.shc.assembling = none) : Change s (arm slot r mask s)
  | loaded (k : Fin 4) (r : RackRecord) (free : s.shc.press = none) : Change s (load k r s)
  | removed (shot : Nat) (k : Fin 4) (c : Cavity) : Change s (removeFrom shot k c s)
  | closeGranted (allowed : s.closeRefusal = none) : Change s (grantClose s)
  | closeHeld : Change s (holdClose s)
  | closeEnded (why : CloseOutcome) : Change s (endClose why s)
  | examined : Change s (examineDeadlines s)
  /-- CLOSED and BUMP. -/
  | bumped (before after : Shot) (press : s.shc.press = some before)
      (closing : before.phase = .closing ∨ before.phase = .bumping) (bumping : after.phase = .bumping) :
      Change s (s.setPress after)
  | cureStarted (before after : Shot) (press : s.shc.press = some before)
      (closing : before.phase = .closing ∨ before.phase = .bumping) : Change s (startCure after s).1
  | openHeld (shot : Nat) : Change s { s with shc := { s.shc with heldOpen := some shot } }
  | openedClosing (sh : Shot) (press : s.shc.press = some sh) (phase : sh.phase = .closing ∨ sh.phase = .bumping) :
      Change s (pressOpened sh (implicitAbort sh s))
  | openedAborted (sh : Shot) (press : s.shc.press = some sh) (phase : sh.phase = .aborted) :
      Change s (pressOpened sh (freePress s))
  | openedCure (sh : Shot) (early : Bool) (press : s.shc.press = some sh)
      (phase : sh.phase = .curing ∨ sh.phase = .cured) : Change s (pressOpened sh (openMould sh early s))
  | assemblingAborted (sh : Shot) (why : CloseOutcome) (assembling : s.shc.assembling = some sh) :
      Change s (abortAssembling sh why s)
  | pressAborted (sh : Shot) (press : s.shc.press = some sh) (phase : sh.phase = .closing ∨ sh.phase = .bumping) :
      Change s (abortPress sh s)
  | cleared : Change s (clearProduction s)
  | lockTaken : Change s (takeLock s)
  | claimHeld : Change s (holdClaim s)
  | lockReleased : Change s (reexamine (handlerLetsGo s))
  | claimEnded (why : ClaimOutcome) : Change s (endClaim why s)
  | reclaimed : Change s (reclaim s)
  | engaged (sh : Shot) (d : Demould) (opening : s.opening = some (sh, d)) (holder : s.dmi.holder = .handler) :
      Change s (engage sh d s)
  /-- EJECT. -/
  | ejectAsked (sh : Shot) (d : Demould) (grant held : Bool) (opening : s.opening = some (sh, d))
      (lawful : grant = true → d.engaged = true ∨ d.grant = true) :
      Change s (s.setDemould { d with grant := grant, heldEject := held })
  | ejected (sh : Shot) (d : Demould) (n : Nat) (opening : s.opening = some (sh, d)) :
      Change s (setNotice .handler (.ejected sh.number n) (s.setDemould { d with grant := false, count := n }))
  /-- PART TAKEN and CLEAR CAVITY. -/
  | partOut (k : Fin 4) (f : Cavity → Cavity) : Change s (sealIfOut (s.modifyPress fun x => x.modifyCavity k f))
  /-- TAKE FAIL, without its notice and with it. -/
  | takeFailed (k : Fin 4) (f : Cavity → Cavity) : Change s (s.modifyPress fun x => x.modifyCavity k f)
  | stuck (k : Fin 4) (f : Cavity → Cavity) (b : NoticeBody) :
      Change s (setNotice .press b (s.modifyPress fun x => x.modifyCavity k f))
  | windowEnded : Change s (endWindow s)
  | historySet (mark : Nat) : Change s (compareLow { s with hrg := { s.hrg with lowMark := mark } })
  | timeSet (offset : Nat) (set : Bool) :
      Change s { s with hrg := { s.hrg with wallOffset := offset, wallSet := set } }
  | fetchHeld (next : Nat) : Change s { s with ports := { s.ports with heldFetch := some next } }
  | collected (upTo : Nat) : Change s (collectUpTo upTo s)
  | noticesRead (p : Port) (n : Nat) :
      Change s (s.modifyPort p fun x => { x with notices := x.notices.drop n, lost := false })
  | portSet (p : Port) (turnaround : Nat) : Change s (s.modifyPort p fun x => { x with turnaround := turnaround })
  | portReset (p : Port) : Change s (endHeld p (s.modifyPort p PortState.cleared))

/-! ### What each owner of a request can do -/

section Owners

variable {s : State}

theorem zoneSetup_change (zone : BitVec 8) (power bias band gain idle trip : BitVec 16) :
    Change s (zoneSetup zone power bias band gain idle trip s).1 := by
  unfold zoneSetup
  split
  · exact .kept
  · exact .heated _

theorem heatSetup_change (band : BitVec 16) (delay : BitVec 8) (setback : BitVec 16) :
    Change s (heatSetup band delay setback s).1 := by
  unfold heatSetup
  split_ifs <;> exact .heated _

theorem zoneMode_change (zone mode : BitVec 8) (demand : BitVec 16) (frames : BitVec 8) :
    Change s (zoneMode zone mode demand frames s).1 := by
  unfold zoneMode
  split
  · split_ifs
    · exact .kept
    · exact .heated _
  · exact .kept

theorem clearZoneFault_change (zone : BitVec 8) : Change s (clearZoneFault zone s).1 := by
  unfold clearZoneFault
  split
  · exact .kept
  · split_ifs
    · exact .kept
    · exact .kept
    · exact .heated _
    · exact .kept

theorem standbyNow_change : Change s (standbyNow s).1 := by
  unfold standbyNow
  split
  · exact .kept
  · split
    · exact .kept
    · exact .standby

theorem endStandbyWait_change : Change s (endStandbyWait s) := by
  unfold endStandbyWait
  split
  · exact .standby
  · exact .kept

theorem wake_change : Change s (wake s).1 := by
  unfold wake
  split
  · exact .production _
  · split
    · exact .heated _
    · exact .kept

theorem onScale_change (scale : BitVec 8) {f : Fin 2 → State → State × Answer} (h : ∀ k, Change s (f k s).1) :
    Change s (onScale scale f s).1 := by
  unfold onScale
  split
  · exact .kept
  · exact h _

theorem whenIdle_change (k : Fin 2) {r : State × Answer} (h : Change s r.1) : Change s (whenIdle k s r).1 := by
  unfold whenIdle
  split
  · exact h
  · exact .kept

theorem setGain_change (gain : BitVec 16) (k : Fin 2) : Change s (setGain gain k s).1 :=
  whenIdle_change k (.weighed s.freeCount k _ fun _ => rfl)

theorem scaleSetup_change (band : BitVec 16) (count timeout : BitVec 8) (minPly : BitVec 16) (validity : BitVec 8)
    (k : Fin 2) : Change s (scaleSetup band count timeout minPly validity k s).1 :=
  whenIdle_change k (.weighed s.freeCount k _ fun _ => rfl)

theorem tare_change (k : Fin 2) : Change s (tare k s).1 := by
  refine whenIdle_change k ?_
  split_ifs
  · exact .kept
  · dsimp only
    rw [fitWord_state]
    exact .weighed _ k _ fun _ => rfl

theorem weighStart_change (scale group : BitVec 8) : Change s (weighStart scale group s).1 := by
  unfold weighStart
  split
  · refine whenIdle_change _ ?_
    split
    · exact .kept
    · split_ifs
      · exact .kept
      · exact .kept
      · exact .weighed s.freeCount _ _ fun _ => rfl
      · exact .kept
  · exact .kept

theorem addPly_change (k : Fin 2) : Change s (addPly k s).1 := by
  unfold addPly
  split
  case h_2 =>
    unfold addPlyOpen
    split
    · exact .kept
    · split_ifs
      · exact .kept
      · exact .kept
      · dsimp only
        rw [fitWord_state]
        exact .weighed _ k _ fun _ => rfl
  all_goals exact .kept

theorem closeCharge_change (k : Fin 2) : Change s (closeCharge k s).1 := by
  unfold closeCharge
  split
  case h_2 =>
    unfold closeOpen
    split_ifs
    · exact .kept
    · split
      case h_4 =>
        split
        · exact .kept
        · exact .racked _ _ _ ‹_›
      all_goals exact .kept
  all_goals exact .kept

theorem discardSession_change (k : Fin 2) (e : Session) : Change s (discardSession k e s).1 := by
  unfold discardSession
  split_ifs
  · exact .abandoned _ _
  · exact .sessionScrapped _ _ _ ‹_›
  · exact .kept

theorem discard_change (k : Fin 2) : Change s (discard k s).1 := by
  unfold discard
  split
  · exact discardSession_change _ _
  · exact discardSession_change _ _
  all_goals exact .kept

theorem declareLot_change (lot : BitVec 32) (material minutes : BitVec 16) (k : Fin 2) :
    Change s (declareLot lot material minutes k s).1 := by
  unfold declareLot
  split_ifs
  · exact .kept
  · unfold declareOn
    split
    · split_ifs
      · exact .kept
      · exact .redeclared _ _
    · split
      · exact .kept
      · exact .learned _ _ _ _ _ ‹_› ‹_›

theorem discardCharge_change (charge : BitVec 32) : Change s (discardCharge charge s).1 := by
  have record (r : RackRecord) (cause : ScrapCause) : Change s (discardRecord r cause s).1 := by
    unfold discardRecord
    split
    · exact .rackScrapped _ _ ‹_›
    · exact .kept
  unfold discardCharge
  split
  · exact .kept
  · split
    · exact .kept
    · exact record _ _
    · exact record _ _

theorem takeCharge_change (cavity : BitVec 8) : Change s (takeCharge cavity s).1 := by
  unfold takeCharge
  split
  · exact .kept
  · split
    · split
      · exact .kept
      · split
        · exact .staged _ _ ‹_›
        · exact .kept
    · exact .kept

theorem returnCharge_change (cavity : BitVec 8) : Change s (returnCharge cavity s).1 := by
  unfold returnCharge
  split
  · exact .kept
  · split
    · exact .kept
    · exact .returned _ _ _

theorem writeRecipe_change (slot : BitVec 8) (b : RecipeBody) : Change s (writeRecipe slot b s).1 := by
  unfold writeRecipe
  split
  · exact .kept
  · split_ifs
    · exact .kept
    · exact .kept
    · exact .recipeWritten _ _
    · exact .kept

theorem mountMould_change (slot : BitVec 8) : Change s (mountMould slot s).1 := by
  unfold mountMould
  split
  · exact .kept
  · split
    · exact .kept
    · split
      · exact .kept
      · exact .mounted _

theorem unmount_change : Change s (unmount s).1 := by
  unfold unmount
  split
  · exact .kept
  · exact .mounted _

theorem armShot_change (mask : BitVec 8) : Change s (armShot mask s).1 := by
  unfold armShot
  split
  · split_ifs with _ busy
    · exact .kept
    · exact .kept
    · exact .armed _ _ _ (by simpa using busy)
  · exact .kept

theorem loaded_change (cavity : BitVec 8) : Change s (Machine.loaded cavity s).1 := by
  unfold Machine.loaded
  split
  · exact .kept
  · split
    · exact .kept
    · split_ifs with free
      · obtain ⟨press, -⟩ := Bool.and_eq_true_iff.mp free
        exact .loaded _ _ (Option.isNone_iff_eq_none.mp press)
      · exact .kept

theorem removeCharge_change (cavity : BitVec 8) : Change s (removeCharge cavity s).1 := by
  unfold removeCharge
  split
  · exact .kept
  · split
    · split_ifs
      · exact .removed _ _ _
      · exact .kept
    · exact .kept

theorem close_change : Change s (close s).1 := by
  unfold close
  split
  · exact .kept
  · split_ifs
    · exact .kept
    · exact .closeGranted ‹_›
    · exact .closeHeld

theorem withdrawClose_change : Change s (withdrawClose s).1 := by
  unfold withdrawClose
  split_ifs
  · exact .closeEnded _
  · exact .kept

theorem pressReport_change {f : Shot → State × Answer} (h : ∀ sh, s.shc.press = some sh → Change s (f sh).1) :
    Change s (pressReport f s).1 := by
  unfold pressReport
  split
  · exact .kept
  · split
    · exact h _ ‹_›
    · exact .kept

theorem closed_change : Change s (closed s).1 := by
  refine pressReport_change fun sh press => ?_
  cases phase : sh.phase
  case closing => exact .bumped sh _ press (.inl phase) rfl
  all_goals exact .kept

theorem bump_change : Change s (bump s).1 := by
  refine pressReport_change fun sh press => ?_
  cases phase : sh.phase
  case closing => exact .bumped sh _ press (.inl phase) rfl
  case bumping => exact .bumped sh _ press (.inr phase) phase
  all_goals exact .kept

theorem pressure_change : Change s (pressure s).1 := by
  refine pressReport_change fun sh press => ?_
  cases phase : sh.phase
  case closing => exact .cureStarted sh _ press (.inl phase)
  case bumping => exact .cureStarted sh _ press (.inr phase)
  all_goals exact .kept

theorem openPress_change : Change s (openPress s).1 := by
  unfold openPress
  split
  · exact .kept
  · split
    case h_2 =>
      split
      · exact .kept
      · exact .openHeld _
    all_goals exact .kept

theorem opened_change : Change s (opened s).1 := by
  unfold opened
  split
  · exact .kept
  · rename_i sh press
    cases phase : sh.phase
    case closing => exact .openedClosing sh press (.inl phase)
    case bumping => exact .openedClosing sh press (.inr phase)
    case aborted => exact .openedAborted sh press phase
    case curing => exact .openedCure sh _ press (.inl phase)
    case cured => exact .openedCure sh _ press (.inr phase)
    all_goals exact .kept

theorem abortOther_change (number : Nat) : Change s (abortOther number s).1 := by
  unfold abortOther
  split
  · exact .kept
  · rename_i sh press
    split_ifs
    · unfold abortPressSide
      cases phase : sh.phase
      case closing => exact .pressAborted sh press (.inl phase)
      case bumping => exact .pressAborted sh press (.inr phase)
      all_goals exact .kept
    · exact .kept

theorem abortShot_change (shot : BitVec 32) : Change s (abortShot shot s).1 := by
  unfold abortShot
  split
  · exact abortOther_change _
  · split
    · exact .assemblingAborted _ _ ‹_›
    · exact abortOther_change _

theorem productionReset_change : Change s (productionReset s).1 := by
  unfold productionReset
  split
  · exact .kept
  · exact .cleared

theorem zoneClaim_change : Change s (zoneClaim s).1 := by
  unfold zoneClaim
  split
  · exact .lockTaken
  · exact .kept
  · split
    · exact .kept
    · exact .claimHeld

theorem zoneRelease_change : Change s (zoneRelease s).1 := by
  unfold zoneRelease
  split
  · exact .lockReleased
  · exact .claimEnded _
  · exact .kept

theorem zoneReclaim_change : Change s (zoneReclaim s).1 := by
  unfold zoneReclaim
  split
  · exact .reclaimed
  · exact .kept

theorem engaged_change : Change s (Machine.engaged s).1 := by
  unfold Machine.engaged
  split
  · exact .kept
  · split_ifs
    · exact .kept
    · exact .engaged _ _ ‹_› ‹_›
    · exact .kept

theorem eject_change : Change s (eject s).1 := by
  unfold eject
  split
  · exact .kept
  · split_ifs with _ _ engaged
    · exact .kept
    · exact .kept
    · exact .ejectAsked _ _ _ _ ‹_› fun _ => .inl engaged
    · exact .kept
    · exact .ejectAsked _ _ _ _ ‹_› .inr

theorem ejected_change : Change s (Machine.ejected s).1 := by
  unfold Machine.ejected
  split
  · exact .kept
  · split_ifs
    · exact .ejected _ _ _ ‹_›
    · exact .kept

theorem partTaken_change (cavity : BitVec 8) : Change s (partTaken cavity s).1 := by
  unfold partTaken
  split
  · exact .kept
  · split
    · exact .kept
    · exact .partOut _ _

theorem takeFail_change (cavity : BitVec 8) : Change s (takeFail cavity s).1 := by
  unfold takeFail
  split
  · exact .kept
  · split
    · exact .kept
    · dsimp only
      split_ifs
      · exact .stuck _ _ _
      · exact .takeFailed _ _

theorem clearCavity_change (cavity disposition : BitVec 8) : Change s (clearCavity cavity disposition s).1 := by
  unfold clearCavity
  split
  · split
    · split_ifs
      · exact .partOut _ _
      · exact .kept
    · exact .kept
  · exact .kept

theorem fetch_change (start : BitVec 32) (count hold : BitVec 8) : Change s (fetch start count hold s).1 := by
  unfold fetch
  split_ifs
  · exact .kept
  · exact .fetchHeld _

theorem onScale_scaleStatus (scale : BitVec 8) : Change s (onScale scale scaleStatus s).1 :=
  onScale_change scale fun _ => .kept

theorem readRecipe_change (slot : BitVec 8) : Change s (readRecipe slot s).1 := by
  unfold readRecipe
  split <;> exact .kept

/-- The owner of a one-byte request of the trace port reads, or resets the port (R164, R176). -/
theorem traceOwner_change (c : Command) : Change s (traceOwner c s).1 := by
  unfold traceOwner
  split_ifs
  · exact .kept
  · exact .kept
  · exact .kept
  · exact .portReset .trace
  · exact .kept

end Owners

/-! ### One step -/

/-- A request leaves an answer alone, or its owner's work with an answer (R164, R169). -/
theorem transact_change (p : Port) (c : Command) {f : State → State × Answer} {s : State} (owner : Change s (f s).1) :
    ∃ u, Change s u ∧ u.Answered (transact p c f s) := by
  unfold transact
  split
  · exact ⟨s, .kept, takeCount_answered ..⟩
  · split
    · exact ⟨_, owner, answer_answered ..⟩
    · exact ⟨s, .kept, answer_answered ..⟩

/-- A one-byte transaction of the trace port is the request its byte names (R164, R167 to R169). -/
theorem oneByte_change (b : Byte) (s : State) : ∃ u, Change s u ∧ u.Answered (oneByte b s) := by
  unfold oneByte
  split
  · exact ⟨s, .kept, unknown_answered ..⟩
  · split
    · exact ⟨s, .kept, truncated_answered ..⟩
    · exact transact_change _ _ (traceOwner_change _)

/-- Every command brings about one of the changes, with an answer or without one. -/
theorem exec_change (i : Instr) (s : State) : ∃ u t, exec i s = .next t ∧ Change s u ∧ u.Answered t := by
  have event {t : State} (h : Change s t) : ∃ u t', Host.Outcome.next (φ := Fault) (ρ := Refusal) t = .next t' ∧
      Change s u ∧ u.Answered t' := ⟨t, t, rfl, h, .refl t⟩
  have request {p : Port} {c : Command} {f : State → State × Answer} (owner : Change s (f s).1) :
      ∃ u t, Host.Outcome.next (φ := Fault) (ρ := Refusal) (transact p c f s) = .next t ∧ Change s u ∧ u.Answered t := by
    obtain ⟨u, h, a⟩ := transact_change p c owner
    exact ⟨u, _, rfl, h, a⟩
  cases i with
  | pinReset => exact event .reset
  | runSecond => exact event .second
  | thermocoupleResult => exact event (.tcArrived ..)
  | loadCellResult => exact event (.lcArrived ..)
  | replyLimitExpiry => exact event (.expired _)
  | unusableReply => exact event (.lostReply ..)
  | zeroCross => exact event .pulsed
  | frameBoundary => exact event .pulsed
  | mainsLost => exact event .mainsLost
  | loadedChargeDeadline => exact event .examined
  | standbyWaitEnd => exact event endStandbyWait_change
  | tareSettled => exact event (.lcArrived ..)
  | tareTimeout => exact event (.tareEnded _)
  | plySettled => exact event (.lcArrived ..)
  | captureTimeout => exact event (.captureEnded _)
  | lotAged => exact event (.aged _)
  | chargeExpired => exact event (.chargeExpired _)
  | demouldLate => exact event .windowEnded
  | transactionTruncated => exact ⟨s, _, rfl, .kept, truncated_answered ..⟩
  | unknownCommand => exact ⟨s, _, rfl, .kept, unknown_answered ..⟩
  | heldFetchCount count =>
    obtain ⟨u, h, a⟩ := oneByte_change count s
    by_cases held : s.inHeldFetch .trace = true
    · exact ⟨s, _, rfl, .kept, by rw [if_pos held]; exact takeCount_answered ..⟩
    · exact ⟨u, _, rfl, h, by rw [if_neg held]; exact a⟩
  | noOperation => exact request .kept
  | readZones => exact request .kept
  | measureSetup => exact request (.measured _)
  | zoneSetup => exact request (zoneSetup_change ..)
  | heatSetup => exact request (heatSetup_change ..)
  | zoneMode => exact request (zoneMode_change ..)
  | clearZoneFault => exact request (clearZoneFault_change _)
  | standbyNow => exact request standbyNow_change
  | wake => exact request wake_change
  | budgetSetup => exact request (.budgeted ..)
  | setCurtail => exact request (.budgeted ..)
  | setGain => exact request (onScale_change _ (setGain_change _))
  | scaleSetup => exact request (onScale_change _ (scaleSetup_change _ _ _ _ _))
  | tare => exact request (onScale_change _ tare_change)
  | weighStart => exact request (weighStart_change ..)
  | addPly => exact request (onScale_change _ addPly_change)
  | closeCharge => exact request (onScale_change _ closeCharge_change)
  | discard => exact request (onScale_change _ discard_change)
  | scaleStatus => exact request (onScale_scaleStatus _)
  | declareLot => exact request (onScale_change _ (declareLot_change _ _ _))
  | lotSetup => exact request (.agingSet _)
  | readLots => exact request .kept
  | discardCharge => exact request (discardCharge_change _)
  | readQueue => exact request .kept
  | takeCharge => exact request (takeCharge_change _)
  | returnCharge => exact request (returnCharge_change _)
  | writeRecipe => exact request (writeRecipe_change ..)
  | readRecipe => exact request (readRecipe_change _)
  | mountMould => exact request (mountMould_change _)
  | unmount => exact request unmount_change
  | setStation => exact request (.stationSet _)
  | armShot => exact request (armShot_change _)
  | loaded => exact request (loaded_change _)
  | removeCharge => exact request (removeCharge_change _)
  | close => exact request close_change
  | withdrawClose => exact request withdrawClose_change
  | closed => exact request closed_change
  | bump => exact request bump_change
  | pressure => exact request pressure_change
  | openPress => exact request openPress_change
  | opened => exact request opened_change
  | abortShot => exact request (abortShot_change _)
  | productionReset => exact request productionReset_change
  | readShots => exact request .kept
  | readCure => exact request .kept
  | zoneClaim => exact request zoneClaim_change
  | zoneRelease => exact request zoneRelease_change
  | zoneReclaim => exact request zoneReclaim_change
  | engaged => exact request engaged_change
  | eject => exact request eject_change
  | ejected => exact request ejected_change
  | partTaken => exact request (partTaken_change _)
  | takeFail => exact request (takeFail_change _)
  | clearCavity => exact request (clearCavity_change ..)
  | readDemould => exact request .kept
  | historySetup => exact request (.historySet _)
  | setTime => exact request (.timeSet ..)
  | fetch => exact request (fetch_change ..)
  | collect => exact request (.collected _)
  | status => exact request .kept
  | readNotices => exact request (.noticesRead ..)
  | portSetup => exact request (.portSet ..)
  | portReset => exact request (.portReset _)

/-- A promise that answers and the queue do not touch is kept by every step when every change keeps it. -/
theorem step_keeps {P : State → Prop} (answers : ∀ {s t}, s.Answered t → P s → P t)
    (queue : ∀ {s} rest, P s → P (s.withPending rest)) (changes : ∀ {s t}, Change s t → P s → P t) {s t : State} (h : P s)
    (stepped : step s = .next t) : P t := by
  unfold step at stepped
  split at stepped
  · cases stepped; exact h
  · rename_i i rest _
    obtain ⟨u, v, e, change, answered⟩ := exec_change i (s.withPending rest)
    rw [e] at stepped
    cases stepped
    exact answers answered (changes change (queue rest h))

/-! ### What composite changes leave alone -/

section Frames

variable (s : State)

@[simp] theorem advanceClock_msq : (advanceClock s).msq = s.msq := by
  simp [advanceClock]
@[simp] theorem advanceClock_hbo : (advanceClock s).hbo = s.hbo := by
  simp [advanceClock]
@[simp] theorem advanceClock_scales : (advanceClock s).scales = s.scales := by
  simp [advanceClock]
@[simp] theorem advanceClock_shc : (advanceClock s).shc = s.shc := by
  simp [advanceClock]
@[simp] theorem advanceClock_dmi : (advanceClock s).dmi = s.dmi := by
  simp [advanceClock]
@[simp] theorem advanceClock_hrg : (advanceClock s).hrg = s.hrg := by
  simp [advanceClock]
@[simp] theorem advanceClock_ports : (advanceClock s).ports = s.ports := by
  simp [advanceClock]
@[simp] theorem advanceClock_pending : (advanceClock s).pending = s.pending := by
  simp [advanceClock]
@[simp] theorem learnLot_clock (k : Fin 2) (lot material minutes : Nat) (room : List Lot) : (learnLot k lot material minutes room s).1.clock = s.clock := by
  simp [learnLot]
@[simp] theorem learnLot_msq (k : Fin 2) (lot material minutes : Nat) (room : List Lot) : (learnLot k lot material minutes room s).1.msq = s.msq := by
  simp [learnLot]
@[simp] theorem learnLot_zct (k : Fin 2) (lot material minutes : Nat) (room : List Lot) : (learnLot k lot material minutes room s).1.zct = s.zct := by
  simp [learnLot]
@[simp] theorem learnLot_hbo (k : Fin 2) (lot material minutes : Nat) (room : List Lot) : (learnLot k lot material minutes room s).1.hbo = s.hbo := by
  simp [learnLot]
@[simp] theorem learnLot_scales (k : Fin 2) (lot material minutes : Nat) (room : List Lot) : (learnLot k lot material minutes room s).1.scales = s.scales := by
  simp [learnLot]
@[simp] theorem learnLot_shc (k : Fin 2) (lot material minutes : Nat) (room : List Lot) : (learnLot k lot material minutes room s).1.shc = s.shc := by
  simp [learnLot]
@[simp] theorem learnLot_dmi (k : Fin 2) (lot material minutes : Nat) (room : List Lot) : (learnLot k lot material minutes room s).1.dmi = s.dmi := by
  simp [learnLot]
@[simp] theorem learnLot_hrg (k : Fin 2) (lot material minutes : Nat) (room : List Lot) : (learnLot k lot material minutes room s).1.hrg = s.hrg := by
  simp [learnLot]
@[simp] theorem learnLot_ports (k : Fin 2) (lot material minutes : Nat) (room : List Lot) : (learnLot k lot material minutes room s).1.ports = s.ports := by
  simp [learnLot]
@[simp] theorem learnLot_pending (k : Fin 2) (lot material minutes : Nat) (room : List Lot) : (learnLot k lot material minutes room s).1.pending = s.pending := by
  simp [learnLot]
@[simp] theorem closeInto_clock (position : Nat) (k : Fin 2) (e : Session) : (closeInto position k e s).1.clock = s.clock := by
  simp [closeInto]
@[simp] theorem closeInto_msq (position : Nat) (k : Fin 2) (e : Session) : (closeInto position k e s).1.msq = s.msq := by
  simp [closeInto]
@[simp] theorem closeInto_zct (position : Nat) (k : Fin 2) (e : Session) : (closeInto position k e s).1.zct = s.zct := by
  simp [closeInto]
@[simp] theorem closeInto_hbo (position : Nat) (k : Fin 2) (e : Session) : (closeInto position k e s).1.hbo = s.hbo := by
  simp [closeInto]
@[simp] theorem closeInto_shc (position : Nat) (k : Fin 2) (e : Session) : (closeInto position k e s).1.shc = s.shc := by
  simp [closeInto]
@[simp] theorem closeInto_dmi (position : Nat) (k : Fin 2) (e : Session) : (closeInto position k e s).1.dmi = s.dmi := by
  simp [closeInto]
@[simp] theorem closeInto_hrg (position : Nat) (k : Fin 2) (e : Session) : (closeInto position k e s).1.hrg = s.hrg := by
  simp [closeInto]
@[simp] theorem closeInto_pending (position : Nat) (k : Fin 2) (e : Session) : (closeInto position k e s).1.pending = s.pending := by
  simp [closeInto]
@[simp] theorem startParts_clock (ks : List (Fin 4)) (sh : Shot) : (startParts ks sh s).2.1.clock = s.clock := by
  induction ks generalizing sh s with
  | nil => rfl
  | cons k rest ih => simp [startParts, ih]
@[simp] theorem startParts_msq (ks : List (Fin 4)) (sh : Shot) : (startParts ks sh s).2.1.msq = s.msq := by
  induction ks generalizing sh s with
  | nil => rfl
  | cons k rest ih => simp [startParts, ih]
@[simp] theorem startParts_zct (ks : List (Fin 4)) (sh : Shot) : (startParts ks sh s).2.1.zct = s.zct := by
  induction ks generalizing sh s with
  | nil => rfl
  | cons k rest ih => simp [startParts, ih]
@[simp] theorem startParts_hbo (ks : List (Fin 4)) (sh : Shot) : (startParts ks sh s).2.1.hbo = s.hbo := by
  induction ks generalizing sh s with
  | nil => rfl
  | cons k rest ih => simp [startParts, ih]
@[simp] theorem startParts_scales (ks : List (Fin 4)) (sh : Shot) : (startParts ks sh s).2.1.scales = s.scales := by
  induction ks generalizing sh s with
  | nil => rfl
  | cons k rest ih => simp [startParts, ih]
@[simp] theorem startParts_ltr (ks : List (Fin 4)) (sh : Shot) : (startParts ks sh s).2.1.ltr = s.ltr := by
  induction ks generalizing sh s with
  | nil => rfl
  | cons k rest ih => simp [startParts, ih]
@[simp] theorem startParts_dmi (ks : List (Fin 4)) (sh : Shot) : (startParts ks sh s).2.1.dmi = s.dmi := by
  induction ks generalizing sh s with
  | nil => rfl
  | cons k rest ih => simp [startParts, ih]
@[simp] theorem startParts_hrg (ks : List (Fin 4)) (sh : Shot) : (startParts ks sh s).2.1.hrg = s.hrg := by
  induction ks generalizing sh s with
  | nil => rfl
  | cons k rest ih => simp [startParts, ih]
@[simp] theorem startParts_ports (ks : List (Fin 4)) (sh : Shot) : (startParts ks sh s).2.1.ports = s.ports := by
  induction ks generalizing sh s with
  | nil => rfl
  | cons k rest ih => simp [startParts, ih]
@[simp] theorem startParts_pending (ks : List (Fin 4)) (sh : Shot) : (startParts ks sh s).2.1.pending = s.pending := by
  induction ks generalizing sh s with
  | nil => rfl
  | cons k rest ih => simp [startParts, ih]
@[simp] theorem startCure_clock (sh : Shot) : (startCure sh s).1.clock = s.clock := by
  simp [startCure]
@[simp] theorem startCure_msq (sh : Shot) : (startCure sh s).1.msq = s.msq := by
  simp [startCure]
@[simp] theorem startCure_zct (sh : Shot) : (startCure sh s).1.zct = s.zct := by
  simp [startCure]
@[simp] theorem startCure_hbo (sh : Shot) : (startCure sh s).1.hbo = s.hbo := by
  simp [startCure]
@[simp] theorem startCure_scales (sh : Shot) : (startCure sh s).1.scales = s.scales := by
  simp [startCure]
@[simp] theorem startCure_ltr (sh : Shot) : (startCure sh s).1.ltr = s.ltr := by
  simp [startCure]
@[simp] theorem startCure_dmi (sh : Shot) : (startCure sh s).1.dmi = s.dmi := by
  simp [startCure]
@[simp] theorem startCure_hrg (sh : Shot) : (startCure sh s).1.hrg = s.hrg := by
  simp [startCure]
@[simp] theorem startCure_ports (sh : Shot) : (startCure sh s).1.ports = s.ports := by
  simp [startCure]
@[simp] theorem startCure_pending (sh : Shot) : (startCure sh s).1.pending = s.pending := by
  simp [startCure]
@[simp] theorem secondStep_msq : (secondStep s).msq = s.msq := by
  simp [secondStep]
@[simp] theorem secondStep_hbo : (secondStep s).hbo = s.hbo := by
  simp [secondStep]
@[simp] theorem secondStep_hrg : (secondStep s).hrg = s.hrg := by
  simp [secondStep]
@[simp] theorem secondStep_pending : (secondStep s).pending = s.pending := by
  simp [secondStep]

end Frames

/-! ### The queue and the reset line -/

/-- Settles O1: the front command is taken off the queue before it runs. -/
theorem stepTakesTheFrontCommand : Obligations.StepTakesTheFrontCommand :=
  fun _ _ _ => ⟨rfl, rfl⟩

theorem available_reset : State.reset.available = 256 := by
  have slots : State.reset.hrg.slots.toList = List.replicate 256 .free := rfl
  have start : State.reset.hrg.writePos.val = 0 := rfl
  simp only [State.available, slots, start, List.drop_zero, List.take_zero, List.append_nil]
  rw [List.takeWhile_replicate_eq_filter, List.filter_replicate_of_pos rfl, List.length_replicate]

/-- Settles O2: each block of the reset state, field by field. -/
theorem pinResetRestoresEveryBlock : Obligations.PinResetRestoresEveryBlock := by
  intro s
  have zone (z) : State.reset.zct.zones.get z = Zone.reset := Table.get_replicate ..
  refine ⟨_, rfl, rfl, rfl, fun _ => Table.get_replicate .., fun _ => Table.get_replicate .., rfl, rfl, rfl, fun z => ?zones,
    rfl, rfl, rfl, rfl, rfl, rfl, rfl, rfl, rfl, rfl, rfl, rfl, rfl, rfl, rfl, fun _ => Table.get_ofFn ..,
    fun _ => Table.get_replicate .., rfl, rfl, rfl, fun _ => Table.get_replicate .., rfl, rfl, rfl, rfl, rfl, rfl, rfl, rfl,
    rfl, rfl, rfl, rfl, fun _ => Table.get_replicate .., rfl, rfl, rfl, ?oldest, ?available, rfl, rfl, rfl, fun p => ?ports,
    rfl, rfl, rfl, rfl, rfl⟩
  case zones =>
    show (State.reset.zct.zones.get z).active = _ ∧ _
    rw [zone]
    exact ⟨rfl, rfl, rfl, rfl, rfl, rfl, rfl, rfl, rfl, rfl, rfl, rfl, rfl⟩
  case oldest => exact show max 1 (1 - 1 - 255) = 1 by decide
  case available => exact Eq.trans (State.available_congr (s := State.reset) rfl rfl) available_reset
  case ports => cases p <;> exact ⟨rfl, rfl, rfl, rfl, rfl⟩

/-- Settles O3: the reset state has every heater off, every list empty, and every slot of the ring free. -/
theorem resetMeetsEveryInvariant : Obligations.ResetMeetsEveryInvariant := by
  have scale (k) : State.reset.scales.get k = Scale.reset := Table.get_replicate ..
  have slot (i) : State.reset.hrg.slots.get i = .free := Table.get_replicate ..
  refine ⟨⟨iff_of_true rfl rfl, fun _ z => ?_⟩, ⟨iff_of_false Bool.false_ne_true Bool.false_ne_true, nofun⟩, fun p => ?_,
    fun lot h => ?_, ⟨.nil, Nat.zero_le _⟩, ⟨.nil, nofun⟩, ⟨Nat.one_pos, rfl, fun q low high => ?_, fun i q h => ?_⟩, ?_,
    nofun, nofun, nofun⟩
  · exact congrArg Share.output (Table.get_ofFn Share.reset z)
  · cases p <;> exact Nat.zero_le _
  · rw [scale] at h; cases h
  · exact absurd (low.trans high) (by decide)
  · rw [slot] at h; cases h
  · rw [State.LowCompared, available_reset]; rfl

/-- Settles O19: joining is the port's own work, and its newest notice stands in the set. -/
theorem noticeJoinsItsPortsSet : Obligations.NoticeJoinsItsPortsSet := by
  intro p b s
  rw [setNotice_get_self]
  refine ⟨fun room => if_pos room, fun full => if_neg (Nat.not_lt.mpr full), ?_, fun q other => setNotice_get_ne b s other⟩
  rw [State.attention, setNotice_get_self, PortState.join]
  split <;> simp

end Sys2Proof.Machine
end

section
/-! PROOFS. The heaters while mains is LOST (R47, R50, R51): every step keeps the promise. -/

namespace Sys2Proof.Machine

variable {s t : State}

/-- The promise about the heaters looks at HBO alone. -/
theorem State.MainsSafe.congr (h : s.MainsSafe) (same : t.hbo = s.hbo) : t.MainsSafe := by
  simpa only [State.MainsSafe, same] using h

/-- A frame running with the mains PRESENT is safe. -/
theorem State.mainsSafe_running {n : Nat} (mains : s.hbo.mains = .present) (position : s.hbo.position = some n) :
    s.MainsSafe := by
  simp [State.MainsSafe, mains, position]

theorem frameBoundary_mainsSafe (s : State) : (frameBoundary s).MainsSafe :=
  State.mainsSafe_running (n := 0) (by rw [frameBoundary_hbo_eq]; rfl) (by rw [frameBoundary_hbo_eq]; rfl)

/-- A pulse leaves a frame running (R48, R51). -/
theorem pulse_mainsSafe (s : State) : (pulse s).MainsSafe := by
  unfold pulse
  split
  · exact frameBoundary_mainsSafe _
  · split
    · exact frameBoundary_mainsSafe _
    · split
      · exact State.mainsSafe_running ‹_› rfl
      · exact frameBoundary_mainsSafe _

/-- The end of the mains watch leaves every heater off and no frame running (R50). -/
theorem loseMains_mainsSafe (h : s.MainsSafe) : (loseMains s).MainsSafe := by
  unfold loseMains
  split
  · exact h
  · simp [State.MainsSafe, Share.off]

/-- HBO is written at a pulse, at the end of the mains watch, by its setup requests and by the reset line only. -/
theorem Change.mainsSafe (change : Change s t) (h : s.MainsSafe) : t.MainsSafe := by
  cases change with
  | reset => exact resetMeetsEveryInvariant.1
  | pulsed => exact pulse_mainsSafe s
  | mainsLost => exact loseMains_mainsSafe h
  | budgeted => exact h
  | _ => exact h.congr (by simp)

/-- Settles O4: of all changes only a pulse, the mains watch and the reset line write what the promise looks at. -/
theorem heatersStayOffWhileMainsLost : Obligations.HeatersStayOffWhileMainsLost :=
  fun _ _ => step_keeps (fun answered h => h.congr answered.hbo) (fun _ h => h) Change.mainsSafe

end Sys2Proof.Machine
end

section
/-! PROOFS. The rack's positions (R88): every step keeps them distinct and below 16. -/

namespace Sys2Proof.Machine

/-! ### What work on the lots and the ring leaves of the rack and of the lot table -/

section Material

variable (s : State)

@[simp] theorem State.modifyLot_rack (id : Nat) (f : Lot → Lot) : (s.modifyLot id f).ltr.rack = s.ltr.rack := rfl
@[simp] theorem State.withLots_rack (lots : List Lot) : (s.withLots lots).ltr.rack = s.ltr.rack := rfl
@[simp] theorem ageLot_rack (lot : Nat) : (ageLot lot s).ltr.rack = s.ltr.rack := rfl
@[simp] theorem learnLot_rack (k : Fin 2) (lot material minutes : Nat) (room : List Lot) :
    (learnLot k lot material minutes room s).1.ltr.rack = s.ltr.rack := by simp [learnLot]

/-- A lot changed apart from its ID keeps the table's IDs in their order. -/
theorem State.modifyLot_ids (id : Nat) {f : Lot → Lot} (kept : ∀ l, (f l).id = l.id) :
    (s.modifyLot id f).ltr.lots.map Lot.id = s.ltr.lots.map Lot.id := by
  simp only [State.modifyLot, List.map_map]
  refine List.map_congr_left fun l _ => ?_
  simp only [Function.comp]
  split
  · exact kept l
  · rfl

@[simp] theorem raiseRef_material (id : Nat) :
    (raiseRef id s).ltr.rack = s.ltr.rack ∧ (raiseRef id s).ltr.lots.map Lot.id = s.ltr.lots.map Lot.id :=
  ⟨rfl, s.modifyLot_ids id fun _ => rfl⟩
@[simp] theorem releaseLot_material (id : Nat) :
    (releaseLot id s).ltr.rack = s.ltr.rack ∧ (releaseLot id s).ltr.lots.map Lot.id = s.ltr.lots.map Lot.id :=
  ⟨rfl, s.modifyLot_ids id fun l => by split <;> rfl⟩
@[simp] theorem releaseLotOpt_material (id : Option Nat) :
    (releaseLot? id s).ltr.rack = s.ltr.rack ∧ (releaseLot? id s).ltr.lots.map Lot.id = s.ltr.lots.map Lot.id := by
  cases id with
  | none => exact ⟨rfl, rfl⟩
  | some id => exact releaseLot_material s id
@[simp] theorem lowerRefs_material (ps : List Ply) :
    (lowerRefs ps s).ltr.rack = s.ltr.rack ∧ (lowerRefs ps s).ltr.lots.map Lot.id = s.ltr.lots.map Lot.id := by
  have lower (id : Nat) (s : State) : (lowerRef id s).ltr.lots.map Lot.id = s.ltr.lots.map Lot.id :=
    ((releaseLot_material _ id).2).trans (s.modifyLot_ids id fun _ => rfl)
  exact ⟨foldl_keeps (fun t : State => t.ltr.rack) _ _ _ fun _ _ => rfl,
    foldl_keeps (fun t : State => t.ltr.lots.map Lot.id) _ _ _ fun _ _ => lower ..⟩
@[simp] theorem scrapNow_material (r : ScrapRecord) :
    (scrapNow r s).ltr.rack = s.ltr.rack ∧ (scrapNow r s).ltr.lots.map Lot.id = s.ltr.lots.map Lot.id := by simp [scrapNow]
@[simp] theorem scrapCavity_material (cause : ScrapCause) (n : Nat) (k : Fin 4) (c : Cavity) :
    (scrapCavity cause n k c s).ltr.rack = s.ltr.rack ∧
      (scrapCavity cause n k c s).ltr.lots.map Lot.id = s.ltr.lots.map Lot.id := by
  unfold scrapCavity; split <;> simp
@[simp] theorem scrapShot_material (sh : Shot) :
    (scrapShot sh s).ltr.rack = s.ltr.rack ∧ (scrapShot sh s).ltr.lots.map Lot.id = s.ltr.lots.map Lot.id := by
  simp only [scrapShot, readyScraps_ltr]
  exact ⟨foldl_keeps (fun t : State => t.ltr.rack) _ _ _ fun _ _ => (scrapCavity_material ..).1,
    foldl_keeps (fun t : State => t.ltr.lots.map Lot.id) _ _ _ fun _ _ => (scrapCavity_material ..).2⟩
@[simp] theorem sealPart_material (r : Recipe) (sh : Shot) (k : Fin 4) (c : Cavity) :
    (sealPart r sh k c s).ltr.rack = s.ltr.rack ∧ (sealPart r sh k c s).ltr.lots.map Lot.id = s.ltr.lots.map Lot.id := by
  unfold sealPart; split <;> simp
@[simp] theorem sealIfOut_material :
    (sealIfOut s).ltr.rack = s.ltr.rack ∧ (sealIfOut s).ltr.lots.map Lot.id = s.ltr.lots.map Lot.id := by
  unfold sealIfOut
  split
  · split
    · simp only [sealShot, setNotice_ltr, entryFreed_ltr, endEject_ltr]
      exact ⟨foldl_keeps (fun t : State => t.ltr.rack) _ _ _ fun _ _ => (sealPart_material ..).1,
        foldl_keeps (fun t : State => t.ltr.lots.map Lot.id) _ _ _ fun _ _ => (sealPart_material ..).2⟩
    · exact ⟨rfl, rfl⟩
  · exact ⟨rfl, rfl⟩
@[simp] theorem endCapture_material (k : Fin 2) (e : Session) :
    (endCapture k e s).ltr.rack = s.ltr.rack ∧ (endCapture k e s).ltr.lots.map Lot.id = s.ltr.lots.map Lot.id := by
  simp [endCapture]
@[simp] theorem timeoutCapture_material (k : Fin 2) :
    (timeoutCapture k s).ltr.rack = s.ltr.rack ∧ (timeoutCapture k s).ltr.lots.map Lot.id = s.ltr.lots.map Lot.id := by
  unfold timeoutCapture
  split
  · exact ⟨rfl, rfl⟩
  · split <;> simp
@[simp] theorem settleCapture_material (k : Fin 2) :
    (settleCapture k s).ltr.rack = s.ltr.rack ∧ (settleCapture k s).ltr.lots.map Lot.id = s.ltr.lots.map Lot.id := by
  unfold settleCapture
  dsimp only
  split
  · exact ⟨rfl, rfl⟩
  · split
    · simp
    · simp [capturePly]
@[simp] theorem deliver_material (k : Fin 2) (a : Arrival) :
    (deliver k a s).ltr.rack = s.ltr.rack ∧ (deliver k a s).ltr.lots.map Lot.id = s.ltr.lots.map Lot.id := by
  unfold deliver
  split
  · exact ⟨rfl, rfl⟩
  · exact ⟨rfl, rfl⟩
  · dsimp only; split <;> simp
  · dsimp only; split <;> simp
@[simp] theorem arriveLc_material (channel : Nat) (st : LcResult) (count : Int) :
    (arriveLc channel st count s).ltr.rack = s.ltr.rack ∧
      (arriveLc channel st count s).ltr.lots.map Lot.id = s.ltr.lots.map Lot.id := by
  unfold arriveLc
  split
  · simp
  · split <;> simp
@[simp] theorem expireConversion_material (link : Converter) :
    (expireConversion link s).ltr.rack = s.ltr.rack ∧
      (expireConversion link s).ltr.lots.map Lot.id = s.ltr.lots.map Lot.id := by
  unfold expireConversion
  split <;> split <;> simp
@[simp] theorem abandonSession_material (k : Fin 2) (e : Session) :
    (abandonSession k e s).ltr.rack = s.ltr.rack ∧ (abandonSession k e s).ltr.lots.map Lot.id = s.ltr.lots.map Lot.id := by
  simp [abandonSession]
@[simp] theorem makeCurrent_material (k : Fin 2) (lot : Nat) :
    (makeCurrent k lot s).ltr.rack = s.ltr.rack ∧ (makeCurrent k lot s).ltr.lots.map Lot.id = s.ltr.lots.map Lot.id := by
  unfold makeCurrent
  split
  · exact ⟨rfl, rfl⟩
  · dsimp only
    split <;> simp
@[simp] theorem advanceClock_material :
    (advanceClock s).ltr.rack = s.ltr.rack ∧ (advanceClock s).ltr.lots = s.ltr.lots := by simp [advanceClock]

end Material

/-! ### The positions of the rack -/

/-- The positions of the rack's records, in queue order. -/
def State.positions (s : State) : List Nat :=
  s.ltr.rack.map RackRecord.position

variable {s t : State}

/-- The promise about the rack is one about its positions. -/
theorem State.rackSound_iff : s.RackSound ↔ s.positions.Nodup ∧ ∀ n ∈ s.positions, n < Config.rackRoom := by
  simp [State.RackSound, State.positions]

theorem State.RackSound.of_sublist (h : s.RackSound) (sub : t.positions.Sublist s.positions) : t.RackSound := by
  rw [State.rackSound_iff] at h ⊢
  exact ⟨h.1.sublist sub, fun n m => h.2 n (sub.subset m)⟩

theorem State.RackSound.congr (h : s.RackSound) (same : t.ltr.rack = s.ltr.rack) : t.RackSound :=
  h.of_sublist (by simp [State.positions, same])

/-- A record changed in its place keeps the positions. -/
theorem State.modifyRack_positions (s : State) (id : Nat) {f : RackRecord → RackRecord} (kept : ∀ r, (f r).position = r.position) :
    (s.modifyRack id f).positions = s.positions := by
  simp only [State.positions, State.modifyRack, List.map_map]
  refine List.map_congr_left fun r _ => ?_
  simp only [Function.comp]
  split
  · exact kept r
  · rfl

theorem State.leaveRack_positions (s : State) (id : Nat) : (s.leaveRack id).positions.Sublist s.positions :=
  List.filter_sublist.map _

theorem returnStaged_positions (k : Fin 4) (r : RackRecord) (q : Nat) (s : State) :
    (returnStaged k r q s).positions = s.positions := by
  have same : (returnStaged k r q s).positions = (s.modifyRack r.charge.id fun x => { x with state := s.returnState r }).positions := by
    simp [returnStaged, State.positions]
  exact same.trans (s.modifyRack_positions _ fun _ => rfl)

theorem returnCavity_positions (k : Fin 4) (s : State) : (returnCavity k s).positions = s.positions := by
  unfold returnCavity
  split
  · rfl
  · exact returnStaged_positions ..

theorem abortAssembling_positions (sh : Shot) (why : CloseOutcome) (s : State) :
    (abortAssembling sh why s).positions = s.positions := by
  have same : (abortAssembling sh why s).positions =
      (sh.stagedCavities.foldl (fun st k => returnCavity k st) (endClose why s)).positions := by
    simp [abortAssembling, State.positions]
  rw [same, foldl_keeps State.positions _ _ _ fun _ _ => returnCavity_positions ..]
  simp [State.positions]

theorem abortPress_positions (sh : Shot) (s : State) : (abortPress sh s).positions = s.positions := by
  simp [abortPress, State.positions]

theorem clearProduction_positions (s : State) : (clearProduction s).positions = s.positions := by
  have same (u : State) : (endClaim .productionReset (endClose .productionReset u)).positions = u.positions := by
    simp [State.positions]
  unfold clearProduction
  rw [same]
  cases s.shc.assembling with
  | none => cases s.pressToAbort with
    | none => rfl
    | some sh => exact abortPress_positions ..
  | some a => cases s.pressToAbort with
    | none => exact abortAssembling_positions ..
    | some sh => exact (abortPress_positions ..).trans (abortAssembling_positions ..)

theorem expireCharge_positions (id : Nat) (s : State) : (expireCharge id s).positions = s.positions := by
  unfold expireCharge
  split
  · rfl
  · rename_i r _
    unfold expireRecord
    split
    · refine (s.modifyRack_positions r.charge.id fun x => ?_ : _)
      unfold RackRecord.marked; split <;> rfl
    · rfl

theorem expireCharges_positions (s : State) : (expireCharges s).positions = s.positions :=
  foldl_keeps State.positions _ _ _ fun _ _ => expireCharge_positions ..

theorem secondStep_positions (s : State) : (secondStep s).positions = s.positions := by
  have same : (secondStep s).positions =
      (expireCharges (timeoutCapture 1 (timeoutCapture 0 (timeoutTare 1 (timeoutTare 0 s))))).positions := by
    simp [secondStep, finishSecond, ageLots, State.positions]
  rw [same, expireCharges_positions]
  simp [State.positions]

theorem stage_positions (k : Fin 4) (r : RackRecord) (s : State) : (stage k r s).positions = s.positions := by
  have same : (stage k r s).positions = (reserve s).positions := (reserve s).modifyRack_positions r.charge.id fun _ => rfl
  rw [same]
  simp [State.positions]

theorem load_positions (k : Fin 4) (r : RackRecord) (s : State) : (load k r s).positions.Sublist s.positions :=
  s.leaveRack_positions r.charge.id

/-- The lowest free position is free, and one of the rack's (R88). -/
theorem lowestFree_spec {rack : List RackRecord} {n : Nat} (h : lowestFree rack = some n) :
    n < Config.rackRoom ∧ ∀ r ∈ rack, r.position ≠ n := by
  refine ⟨List.mem_range.mp (List.mem_of_find?_eq_some h), fun r m => ?_⟩
  have free := List.find?_some h
  simpa using List.all_eq_true.mp free r m

/-- A charge closed enters at the end of the queue. -/
theorem closeInto_positions (n : Nat) (k : Fin 2) (e : Session) (s : State) :
    (closeInto n k e s).1.positions = s.positions ++ [n] := by
  simp only [closeInto, enterRack, State.positions]
  split_ifs <;> simp

theorem closeInto_rackSound {n : Nat} (k : Fin 2) (e : Session) (free : lowestFree s.ltr.rack = some n) (h : s.RackSound) :
    (closeInto n k e s).1.RackSound := by
  obtain ⟨low, fresh⟩ := lowestFree_spec free
  rw [State.rackSound_iff] at h ⊢
  obtain ⟨distinct, bounded⟩ := h
  have absent : n ∉ s.positions := by simpa [State.positions] using fresh
  rw [closeInto_positions]
  refine ⟨by simpa [List.nodup_append] using ⟨distinct, fun _ m e => absent (e ▸ m)⟩, fun m hm => ?_⟩
  rcases List.mem_append.mp hm with hm | hm
  · exact bounded m hm
  · rw [List.mem_singleton.mp hm]; exact low

/-- The positions change where a charge enters the rack at the lowest free one, and where one leaves it. -/
theorem Change.rackSound (change : Change s t) (h : s.RackSound) : t.RackSound := by
  have kept {t : State} (e : t.positions = s.positions) : t.RackSound := h.of_sublist (by rw [e])
  cases change with
  | reset => obtain ⟨-, -, -, -, -, sound, -⟩ := resetMeetsEveryInvariant; exact sound
  | second => exact kept (secondStep_positions s)
  | chargeExpired => exact kept (expireCharge_positions ..)
  | racked n k e free => exact closeInto_rackSound k e free h
  | rackScrapped r id =>
    have left : (s.leaveRack id).RackSound := h.of_sublist (s.leaveRack_positions id)
    exact left.congr (scrapNow_material ..).1
  | staged => exact kept (stage_positions ..)
  | returned => exact kept (returnStaged_positions ..)
  | loaded => exact h.of_sublist (load_positions ..)
  | removed => exact h.congr (by simp [removeFrom])
  | openedClosing => exact h.congr (by simp [implicitAbort])
  | assemblingAborted => exact kept (abortAssembling_positions ..)
  | pressAborted => exact kept (abortPress_positions ..)
  | cleared => exact kept (clearProduction_positions s)
  | _ => exact h.congr (by simp)

/-- Settles O8: a charge enters at a free position below 16, and nothing else writes a position. -/
theorem rackPositionsStayDistinct : Obligations.RackPositionsStayDistinct :=
  fun _ _ => step_keeps (fun answered h => h.congr (congrArg Ltr.rack answered.ltr)) (fun _ h => h) Change.rackSound

end Sys2Proof.Machine
end

section
/-! PROOFS. The eject grant, ENGAGED and the lock (R140 to R142): every step keeps the promise about them. -/

namespace Sys2Proof.Machine

/-! ### The press-side shot and its phase -/

/-- The phase of the press-side shot, if there is one. -/
def State.pressPhase (s : State) : Option Phase :=
  s.shc.press.map Shot.phase

section Press

variable (s : State)

theorem State.pressPhase_of_press {s t : State} (h : t.shc.press = s.shc.press) : t.pressPhase = s.pressPhase :=
  congrArg (Option.map Shot.phase) h

theorem State.pressIn_isSome (ph : Phase) : (s.pressIn ph).isSome = true ↔ s.pressPhase = some ph := by
  cases press : s.shc.press with
  | none => simp [State.pressIn, State.pressPhase, press]
  | some sh => by_cases h : sh.phase = ph <;> simp [State.pressIn, State.pressPhase, press, Option.filter, h]

/-- A change of the cavities of the press-side shot keeps its phase. -/
theorem State.modifyPress_phase {f : Shot → Shot} (kept : ∀ sh, (f sh).phase = sh.phase) :
    (s.modifyPress f).pressPhase = s.pressPhase := by
  cases press : s.shc.press <;> simp [State.modifyPress, State.pressPhase, press, kept]

@[simp] theorem State.modifyAssembling_press (f : Shot → Shot) : (s.modifyAssembling f).shc.press = s.shc.press := rfl
@[simp] theorem endClose_shots (why : CloseOutcome) :
    (endClose why s).shc.press = s.shc.press ∧ (endClose why s).shc.assembling = s.shc.assembling := by
  unfold endClose; split <;> exact ⟨rfl, rfl⟩
@[simp] theorem endOpen_shots (why : OpenOutcome) :
    (endOpen why s).shc.press = s.shc.press ∧ (endOpen why s).shc.assembling = s.shc.assembling := by
  unfold endOpen; split <;> exact ⟨rfl, rfl⟩
@[simp] theorem issueCharge_shots (e : Session) :
    (issueCharge e s).2.shc.press = s.shc.press ∧ (issueCharge e s).2.shc.assembling = s.shc.assembling := by
  unfold issueCharge; split <;> simp
@[simp] theorem settleCapture_shots (k : Fin 2) :
    (settleCapture k s).shc.press = s.shc.press ∧ (settleCapture k s).shc.assembling = s.shc.assembling := by
  unfold settleCapture
  dsimp only
  split
  · exact ⟨rfl, rfl⟩
  · split
    · simp
    · simp [capturePly]
@[simp] theorem deliver_shots (k : Fin 2) (a : Arrival) :
    (deliver k a s).shc.press = s.shc.press ∧ (deliver k a s).shc.assembling = s.shc.assembling := by
  unfold deliver
  split
  · exact ⟨rfl, rfl⟩
  · exact ⟨rfl, rfl⟩
  · dsimp only; split <;> simp
  · dsimp only; split <;> simp
@[simp] theorem arriveLc_shots (channel : Nat) (st : LcResult) (count : Int) :
    (arriveLc channel st count s).shc.press = s.shc.press ∧ (arriveLc channel st count s).shc.assembling = s.shc.assembling := by
  unfold arriveLc
  split
  · simp
  · split <;> simp
@[simp] theorem expireConversion_shots (link : Converter) :
    (expireConversion link s).shc.press = s.shc.press ∧ (expireConversion link s).shc.assembling = s.shc.assembling := by
  unfold expireConversion
  split <;> split <;> simp
@[simp] theorem stage_press (k : Fin 4) (r : RackRecord) : (stage k r s).shc.press = s.shc.press := by simp [stage]
@[simp] theorem load_press (k : Fin 4) (r : RackRecord) : (load k r s).shc.press = s.shc.press := by simp [load]
@[simp] theorem returnStaged_press (k : Fin 4) (r : RackRecord) (q : Nat) :
    (returnStaged k r q s).shc.press = s.shc.press := by simp [returnStaged]
@[simp] theorem returnCavity_press (k : Fin 4) : (returnCavity k s).shc.press = s.shc.press := by
  unfold returnCavity; split <;> simp
@[simp] theorem State.setRecipe_shots (i : Fin 8) (r : Recipe) :
    (s.setRecipe i r).shc.press = s.shc.press ∧ (s.setRecipe i r).shc.assembling = s.shc.assembling := ⟨rfl, rfl⟩
@[simp] theorem setMount_shots (m : Option (Fin 8)) :
    (setMount m s).shc.press = s.shc.press ∧ (setMount m s).shc.assembling = s.shc.assembling := ⟨rfl, rfl⟩
@[simp] theorem holdClose_shots :
    (holdClose s).shc.press = s.shc.press ∧ (holdClose s).shc.assembling = s.shc.assembling := ⟨rfl, rfl⟩
@[simp] theorem arm_press (slot : Fin 8) (r : Recipe) (mask : BitVec 8) : (arm slot r mask s).shc.press = s.shc.press := by
  simp [arm]
@[simp] theorem abortAssembling_press (sh : Shot) (why : CloseOutcome) :
    (abortAssembling sh why s).shc.press = s.shc.press := by
  simp only [abortAssembling, entryFreed_shc, setNotice_shc, scrapShot_shc]
  rw [foldl_keeps (fun t : State => t.shc.press) _ _ _ fun _ _ => returnCavity_press ..]
  simp

end Press

/-! ### The promise about the eject grant -/

variable {s t : State}

/-- The promise looks at the demould state, the lock's holder and the phase of the press-side shot. -/
theorem State.ejectSafe_iff : s.EjectSafe ↔ (s.dmi.demould.isSome = true ↔ s.pressPhase = some .opened) ∧
    ∀ d, s.dmi.demould = some d → (d.grant = true → d.engaged = true) ∧ (d.engaged = true → s.dmi.holder = .handler) := by
  rw [State.EjectSafe, State.pressIn_isSome]

theorem State.EjectSafe.congr (h : s.EjectSafe) (dmi : t.dmi = s.dmi) (phase : t.pressPhase = s.pressPhase) : t.EjectSafe := by
  rw [State.ejectSafe_iff] at h ⊢
  rwa [dmi, phase]

/-- Outside OPEN there is no demould state. -/
theorem State.EjectSafe.demould_none (h : s.EjectSafe) (phase : s.pressPhase ≠ some .opened) : s.dmi.demould = none := by
  rw [State.ejectSafe_iff] at h
  simpa using mt h.1.mp phase

/-- Without a demould state the promise holds outside OPEN. -/
theorem State.ejectSafe_of_none (demould : t.dmi.demould = none) (phase : t.pressPhase ≠ some .opened) : t.EjectSafe := by
  simp [State.ejectSafe_iff, demould, phase]

/-- Any change from a state outside OPEN to one outside OPEN that makes no demould state. -/
theorem State.EjectSafe.outside (h : s.EjectSafe) (before : s.pressPhase ≠ some .opened)
    (demould : t.dmi.demould = s.dmi.demould) (after : t.pressPhase ≠ some .opened) : t.EjectSafe :=
  State.ejectSafe_of_none (demould.trans (h.demould_none before)) after

/-- A demould state that keeps ENGAGED under the handler's hold and the grant under ENGAGED. -/
theorem State.EjectSafe.with_demould (h : s.EjectSafe) {d e : Demould} (demould : s.dmi.demould = some d)
    (after : t.dmi.demould = some e) (phase : t.pressPhase = s.pressPhase) (grant : e.grant = true → e.engaged = true)
    (engaged : e.engaged = true → t.dmi.holder = .handler) : t.EjectSafe := by
  rw [State.ejectSafe_iff] at h ⊢
  refine ⟨?_, fun x hx => ?_⟩
  · rw [phase, after, ← h.1, demould]; simp
  · rw [after] at hx
    cases hx
    exact ⟨grant, engaged⟩

theorem endEject_ejectSafe (why : EjectOutcome) (h : s.EjectSafe) : (endEject why s).EjectSafe := by
  unfold endEject
  split
  · exact h
  · rename_i d demould
    split
    · obtain ⟨grant, engaged⟩ := (State.ejectSafe_iff.mp h).2 d demould
      exact h.with_demould demould rfl rfl grant engaged
    · exact h

/-- A close is granted only with no press-side shot, so outside OPEN (R109, R112). -/
theorem press_none_of_closeRefusal (allowed : s.closeRefusal = none) : s.shc.press = none := by
  unfold State.closeRefusal at allowed
  split at allowed
  · cases allowed
  · split at allowed
    · cases allowed
    · simpa using ‹¬ s.shc.press.isSome = true›

theorem grantClose_ejectSafe (allowed : s.closeRefusal = none) (h : s.EjectSafe) : (grantClose s).EjectSafe := by
  have press := press_none_of_closeRefusal allowed
  have before : s.pressPhase ≠ some .opened := by simp [State.pressPhase, press]
  unfold grantClose
  split
  · exact h
  · exact h.outside before rfl (by simp [State.pressPhase])

theorem reexamine_ejectSafe (h : s.EjectSafe) : (reexamine s).EjectSafe := by
  rcases reexamine_cases s with e | ⟨_, _, why, _, _, e⟩ | ⟨_, _, _, allowed, _, _, e⟩
  · rw [e]; exact h
  · rw [e]; exact h.congr (endClose_dmi ..) (State.pressPhase_of_press (endClose_shots ..).1)
  · rw [e]; exact (grantClose_ejectSafe allowed h).congr rfl rfl

/-- The lock leaves the press's hold, under which ENGAGED does not stand (R138). -/
theorem releasePress_ejectSafe (h : s.EjectSafe) : (releasePress s).EjectSafe := by
  have free (t : State) (holder : s.dmi.holder = .press) (demould : t.dmi.demould = s.dmi.demould)
      (phase : t.pressPhase = s.pressPhase) : t.EjectSafe := by
    rw [State.ejectSafe_iff] at h ⊢
    rw [demould, phase]
    refine ⟨h.1, fun d hd => ?_⟩
    obtain ⟨grant, engaged⟩ := h.2 d hd
    exact ⟨grant, fun e => absurd (holder.symm.trans (engaged e)) (by simp)⟩
  unfold releasePress
  split
  · split
    · exact free _ ‹_› rfl rfl
    · exact free _ ‹_› rfl rfl
  · exact h

theorem pressOpened_ejectSafe (sh : Shot) (h : s.EjectSafe) : (pressOpened sh s).EjectSafe :=
  reexamine_ejectSafe ((releasePress_ejectSafe h).congr rfl rfl)

/-- The handler lets go of the lock: ENGAGED and the grant fall with it (R137, R139). -/
theorem handlerLetsGo_ejectSafe (h : s.EjectSafe) : (handlerLetsGo s).EjectSafe := by
  cases demould : s.dmi.demould with
  | none =>
    have phase : s.pressPhase ≠ some .opened := by
      rw [State.ejectSafe_iff] at h
      simpa [demould] using h.1
    exact State.ejectSafe_of_none (by simp [handlerLetsGo, demould]) phase
  | some d =>
    have after : (handlerLetsGo s).dmi.demould = some { d with engaged := false, grant := false } := by
      simp [handlerLetsGo, demould]
    exact h.with_demould demould after rfl nofun nofun

theorem flagUntaken_phase (f : CavityFlags → CavityFlags) (s : State) : (flagUntaken f s).pressPhase = s.pressPhase := by
  unfold flagUntaken
  split
  · rfl
  · rename_i sh opened
    have phase : s.pressPhase = some sh.phase := by
      simp [State.pressPhase, (Option.filter_eq_some_iff.mp opened).1]
    rw [phase]
    rfl

theorem reclaim_ejectSafe (h : s.EjectSafe) : (reclaim s).EjectSafe := by
  have let_go := endEject_ejectSafe .reclaimed (handlerLetsGo_ejectSafe h)
  exact reexamine_ejectSafe (let_go.congr (flagUntaken_dmi ..) (flagUntaken_phase ..))

/-- The shot in OPEN with its demould state (R140). -/
theorem State.opening_eq_some {sh : Shot} {d : Demould} :
    s.opening = some (sh, d) ↔ s.shc.press = some sh ∧ sh.phase = .opened ∧ s.dmi.demould = some d := by
  unfold State.opening
  split
  · rename_i sh' d' opened demould
    obtain ⟨press, phase⟩ := Option.filter_eq_some_iff.mp opened
    simp only [Option.some.injEq, Prod.mk.injEq, press, demould]
    constructor
    · rintro ⟨rfl, rfl⟩; exact ⟨rfl, by simpa using phase, rfl⟩
    · rintro ⟨rfl, -, rfl⟩; exact ⟨rfl, rfl⟩
  · rename_i none_or
    refine iff_of_false nofun fun ⟨press, phase, demould⟩ => ?_
    exact none_or sh d (by simp [State.pressIn, press, Option.filter, phase]) demould

theorem engage_ejectSafe {sh : Shot} {d : Demould} (opening : s.opening = some (sh, d)) (holder : s.dmi.holder = .handler)
    (h : s.EjectSafe) : (engage sh d s).EjectSafe := by
  obtain ⟨-, -, demould⟩ := State.opening_eq_some.mp opening
  unfold engage
  dsimp only
  split
  · exact h.with_demould demould rfl rfl (fun _ => rfl) fun _ => holder
  · exact h.with_demould demould rfl rfl (fun _ => rfl) fun _ => holder

theorem endWindow_ejectSafe (h : s.EjectSafe) : (endWindow s).EjectSafe := by
  unfold endWindow
  split
  · exact h
  · rename_i sh d late
    obtain ⟨-, -, demould⟩ := State.opening_eq_some.mp (Option.filter_eq_some_iff.mp late).1
    obtain ⟨grant, engaged⟩ := (State.ejectSafe_iff.mp h).2 d demould
    refine h.with_demould demould (e := { d with lateGiven := true }) rfl (flagUntaken_phase ..) grant fun e => ?_
    have holder := engaged e
    simpa [State.setDemould] using holder

theorem openMould_ejectSafe (sh : Shot) (early : Bool) (s : State) : (openMould sh early s).EjectSafe := by
  simp [State.ejectSafe_iff, openMould, State.pressPhase, Demould.start]

/-- The seal frees the entry and ends the demould state (R119). -/
theorem sealIfOut_ejectSafe (h : s.EjectSafe) : (sealIfOut s).EjectSafe := by
  unfold sealIfOut
  split
  · split
    · exact State.ejectSafe_of_none (by simp [sealShot]) (by simp [sealShot, State.pressPhase])
    · exact h
  · exact h

theorem grantOpen_press (s : State) : (grantOpen s).shc.press = s.shc.press := by
  unfold grantOpen; split <;> rfl

theorem declareCure_ejectSafe (h : s.EjectSafe) : (declareCure s).EjectSafe := by
  unfold declareCure
  split
  · exact h
  · rename_i sh cured
    have curing : s.pressPhase = some .curing := by
      unfold State.curedShot at cured
      split at cured
      · cases cured
      · exact (s.pressIn_isSome .curing).mp (by rw [(Option.filter_eq_some_iff.mp cured).1]; rfl)
    refine h.outside (by simp [curing]) (by simp) ?_
    simp [State.pressPhase, grantOpen_press, State.setPress]

theorem countShot_phase (s : State) : (countShot s).pressPhase = s.pressPhase := by
  unfold countShot
  split
  · rfl
  · exact s.modifyPress_phase fun _ => rfl

theorem examineDeadlines_ejectSafe (h : s.EjectSafe) : (examineDeadlines s).EjectSafe := by
  unfold examineDeadlines
  split
  · exact reexamine_ejectSafe h
  · exact h

theorem secondStep_ejectSafe (h : s.EjectSafe) : (secondStep s).EjectSafe := by
  have timers : (expireCharges (timeoutCapture 1 (timeoutCapture 0 (timeoutTare 1 (timeoutTare 0 s))))).EjectSafe :=
    h.congr (by simp) (State.pressPhase_of_press (by simp))
  have window := endWindow_ejectSafe (examineDeadlines_ejectSafe timers)
  have finished : (finishSecond s).EjectSafe := window.congr (by simp [finishSecond])
    (State.pressPhase_of_press (by simp [finishSecond]))
  have clock : (advanceClock (finishSecond s)).EjectSafe := finished.congr (by simp) (State.pressPhase_of_press (by simp))
  exact declareCure_ejectSafe (clock.congr (by simp) (countShot_phase _))

theorem frameBoundary_ejectSafe (h : s.EjectSafe) : (frameBoundary s).EjectSafe := by
  rw [frameBoundary_eq]
  have loaded : s.boundaryLoaded.EjectSafe := h.congr rfl rfl
  split
  · exact reexamine_ejectSafe loaded
  · exact loaded

theorem pulse_ejectSafe (h : s.EjectSafe) : (pulse s).EjectSafe := by
  unfold pulse
  split
  · exact frameBoundary_ejectSafe (h.congr rfl rfl)
  · split
    · exact frameBoundary_ejectSafe h
    · split
      · exact h.congr rfl rfl
      · exact frameBoundary_ejectSafe h

theorem startCure_phase (sh : Shot) (s : State) : (startCure sh s).1.pressPhase = some .curing := by
  simp [startCure, State.pressPhase, State.setPress]

theorem abortPress_phase (sh : Shot) (s : State) : (abortPress sh s).pressPhase = some .aborted := by
  simp [abortPress, State.pressPhase]

/-- The press-side shot that a production reset aborts is in CLOSING or BUMPING (R120). -/
theorem State.pressToAbort_phase {sh : Shot} (h : s.pressToAbort = some sh) :
    s.shc.press = some sh ∧ (sh.phase = .closing ∨ sh.phase = .bumping) := by
  obtain ⟨press, phase⟩ := Option.filter_eq_some_iff.mp h
  refine ⟨press, ?_⟩
  cases ph : sh.phase <;> simp_all [Phase.abortable]

theorem endClaim_ejectSafe (why : ClaimOutcome) (h : s.EjectSafe) : (endClaim why s).EjectSafe := by
  unfold endClaim
  split <;> exact h

theorem clearProduction_ejectSafe (h : s.EjectSafe) : (clearProduction s).EjectSafe := by
  have closing (u : State) (hu : u.EjectSafe) : (endClaim .productionReset (endClose .productionReset u)).EjectSafe :=
    endClaim_ejectSafe _ (hu.congr (by simp) (State.pressPhase_of_press (by simp)))
  unfold clearProduction
  refine closing _ ?_
  have first : (match s.shc.assembling with | none => s | some sh => abortAssembling sh .productionReset s).EjectSafe := by
    split
    · exact h
    · exact h.congr (by simp) (State.pressPhase_of_press (by simp))
  split
  · exact first
  · rename_i sh abort
    obtain ⟨press, phase⟩ := State.pressToAbort_phase abort
    have before : s.pressPhase ≠ some .opened := by
      rcases phase with ph | ph <;> simp [State.pressPhase, press, ph]
    refine h.outside before ?_ (by simp [abortPress_phase])
    split <;> simp

/-- Nothing but the demould interlock's own operations, the close, the opening and the cure write what the promise looks at. -/
theorem Change.ejectSafe (change : Change s t) (h : s.EjectSafe) : t.EjectSafe := by
  have outside {sh : Shot} (press : s.shc.press = some sh) (phase : sh.phase ≠ .opened) : s.pressPhase ≠ some .opened := by
    simpa [State.pressPhase, press] using phase
  have ne_of_closing {sh : Shot} (phase : sh.phase = .closing ∨ sh.phase = .bumping) : sh.phase ≠ .opened := by
    rcases phase with ph | ph <;> simp [ph]
  cases change with
  | reset => obtain ⟨-, safe, -⟩ := resetMeetsEveryInvariant; exact safe
  | second => exact secondStep_ejectSafe h
  | pulsed => exact pulse_ejectSafe h
  | removed => exact reexamine_ejectSafe (h.congr (by simp) (State.pressPhase_of_press (by simp)))
  | closeGranted allowed => exact grantClose_ejectSafe allowed h
  | examined => exact examineDeadlines_ejectSafe h
  | bumped before after press closing bumping =>
    exact h.outside (outside press (ne_of_closing closing)) rfl (by simp [State.pressPhase, State.setPress, bumping])
  | cureStarted before after press closing =>
    exact h.outside (outside press (ne_of_closing closing)) (by simp) (by simp [startCure_phase])
  | openedClosing sh press phase =>
    refine pressOpened_ejectSafe sh (h.outside (outside press (ne_of_closing phase)) ?_ ?_)
    · simp
    · simp [implicitAbort, freePress, State.pressPhase]
  | openedAborted sh press phase =>
    refine pressOpened_ejectSafe sh (h.outside (outside press (by simp [phase])) ?_ ?_)
    · simp
    · simp [freePress, State.pressPhase]
  | openedCure sh early => exact pressOpened_ejectSafe sh (openMould_ejectSafe sh early s)
  | pressAborted sh press phase =>
    exact h.outside (outside press (ne_of_closing phase)) (by simp) (by simp [abortPress_phase])
  | cleared => exact clearProduction_ejectSafe h
  | lockTaken =>
    refine reexamine_ejectSafe ?_
    rw [State.ejectSafe_iff] at h ⊢
    exact ⟨h.1, fun d hd => ⟨(h.2 d hd).1, fun _ => rfl⟩⟩
  | claimHeld => exact h
  | lockReleased => exact reexamine_ejectSafe (handlerLetsGo_ejectSafe h)
  | claimEnded why => exact endClaim_ejectSafe why h
  | reclaimed => exact reclaim_ejectSafe h
  | engaged sh d opening holder => exact engage_ejectSafe opening holder h
  | ejectAsked sh d grant held opening lawful =>
    obtain ⟨-, -, demould⟩ := State.opening_eq_some.mp opening
    obtain ⟨standing, engaged⟩ := (State.ejectSafe_iff.mp h).2 d demould
    exact h.with_demould demould rfl rfl (fun g => (lawful g).elim id standing) engaged
  | ejected sh d n opening =>
    obtain ⟨-, -, demould⟩ := State.opening_eq_some.mp opening
    obtain ⟨-, engaged⟩ := (State.ejectSafe_iff.mp h).2 d demould
    exact h.with_demould demould (e := { d with grant := false, count := n }) rfl rfl nofun engaged
  | partOut => exact sealIfOut_ejectSafe (h.congr rfl (s.modifyPress_phase fun _ => rfl))
  | takeFailed => exact h.congr rfl (s.modifyPress_phase fun _ => rfl)
  | stuck => exact h.congr rfl (s.modifyPress_phase fun _ => rfl)
  | windowEnded => exact endWindow_ejectSafe h
  | portReset p =>
    have cleared : (s.modifyPort p PortState.cleared).EjectSafe := h.congr rfl rfl
    cases p with
    | press => exact endEject_ejectSafe _ (cleared.congr (by simp) (State.pressPhase_of_press (by simp)))
    | handler => exact endClaim_ejectSafe _ cleared
    | charge => exact cleared
    | trace => exact cleared
  | _ => exact h.congr (by simp) (State.pressPhase_of_press (by simp))

/-- Settles O5: the grant and ENGAGED fall with the handler's hold, and the demould state comes and goes with OPEN. -/
theorem ejectGrantStaysUnderTheLock : Obligations.EjectGrantStaysUnderTheLock :=
  fun _ _ => step_keeps (fun answered h => h.congr answered.dmi (State.pressPhase_of_press (congrArg Shc.press answered.shc)))
    (fun _ h => h) Change.ejectSafe

end Sys2Proof.Machine
end

section
/-! PROOFS. The shot table (R103): every step keeps at most one ASSEMBLING and one press-side shot, with nothing LOADED beside a
press-side one. -/

namespace Sys2Proof.Machine

variable {s t : State}

/-- No cavity of the assembling shot is LOADED. -/
def State.NoneLoaded (s : State) : Prop :=
  ∀ sh k c, s.shc.assembling = some sh → sh.Holds k c → c.state ≠ .loaded

theorem State.shotsApart_iff : s.ShotsApart ↔ (∀ sh, s.shc.assembling = some sh → sh.phase = .assembling) ∧
    s.pressPhase ≠ some .assembling ∧ (s.pressPhase.isSome → s.NoneLoaded) := by
  cases press : s.shc.press <;> simp [State.ShotsApart, State.pressPhase, State.NoneLoaded, press]

theorem State.NoneLoaded.congr (h : s.NoneLoaded) (same : t.shc.assembling = s.shc.assembling) : t.NoneLoaded := by
  simpa only [State.NoneLoaded, same] using h

/-- A press-side shot may change its phase, or leave; the assembling shot stays. -/
theorem State.ShotsApart.press_changed (h : s.ShotsApart) (same : t.shc.assembling = s.shc.assembling)
    (phase : t.pressPhase ≠ some .assembling) (sub : t.pressPhase.isSome → s.pressPhase.isSome) : t.ShotsApart := by
  rw [State.shotsApart_iff] at h ⊢
  obtain ⟨asm, -, loaded⟩ := h
  exact ⟨by rwa [same], phase, fun p => (loaded (sub p)).congr same⟩

theorem State.ShotsApart.congr (h : s.ShotsApart) (assembling : t.shc.assembling = s.shc.assembling)
    (phase : t.pressPhase = s.pressPhase) : t.ShotsApart :=
  h.press_changed assembling (phase ▸ (State.shotsApart_iff.mp h).2.1) (by rw [phase]; exact id)

/-- Without an assembling shot only the press-side phase matters. -/
theorem State.shotsApart_of_none (assembling : t.shc.assembling = none) (phase : t.pressPhase ≠ some .assembling) :
    t.ShotsApart := by
  simp [State.shotsApart_iff, State.NoneLoaded, assembling, phase]

/-- One cavity of the assembling shot changes, to a state other than LOADED where there is a press-side shot. -/
theorem State.ShotsApart.cavity_changed (h : s.ShotsApart) {k : Fin 4} {f : Cavity → Cavity}
    (same : t.shc.assembling = (s.modifyAssembling fun sh => sh.modifyCavity k f).shc.assembling)
    (phase : t.pressPhase = s.pressPhase) (unloaded : s.pressPhase.isSome → ∀ c, (f c).state ≠ .loaded) : t.ShotsApart := by
  rw [State.shotsApart_iff] at h ⊢
  obtain ⟨asm, press, loaded⟩ := h
  rw [phase]
  have from_s {sh : Shot} (e : t.shc.assembling = some sh) : ∃ old, s.shc.assembling = some old ∧ old.modifyCavity k f = sh := by
    rw [same] at e
    simpa [State.modifyAssembling] using e
  refine ⟨fun sh e => ?_, press, fun p sh j c e holds => ?_⟩
  · obtain ⟨old, before, rfl⟩ := from_s e
    exact asm old before
  · obtain ⟨old, before, rfl⟩ := from_s e
    simp only [Shot.Holds, Shot.modifyCavity, Table.get_modify] at holds
    split at holds
    · obtain ⟨c', -, rfl⟩ := Option.map_eq_some_iff.mp holds
      exact unloaded p c'
    · exact loaded p old j c before holds

theorem emptied_unloaded (c : Cavity) : c.emptied.state ≠ .loaded := by simp [Cavity.emptied]

theorem grantClose_shotsApart (h : s.ShotsApart) : (grantClose s).ShotsApart := by
  unfold grantClose
  split
  · exact h
  · exact State.shotsApart_of_none rfl (by simp [State.pressPhase])

theorem reexamine_shotsApart (h : s.ShotsApart) : (reexamine s).ShotsApart := by
  rcases reexamine_cases s with e | ⟨_, _, why, _, _, e⟩ | ⟨_, _, _, _, _, _, e⟩
  · rw [e]; exact h
  · rw [e]; exact h.congr (by simp) (State.pressPhase_of_press (by simp))
  · rw [e]; exact (grantClose_shotsApart h).congr rfl rfl

theorem pressOpened_shotsApart (sh : Shot) (h : s.ShotsApart) : (pressOpened sh s).ShotsApart :=
  reexamine_shotsApart (h.congr (by simp) (State.pressPhase_of_press (by simp)))

theorem flagUntaken_assembling (f : CavityFlags → CavityFlags) (s : State) :
    (flagUntaken f s).shc.assembling = s.shc.assembling := by
  unfold flagUntaken; split <;> rfl

theorem examineDeadlines_shotsApart (h : s.ShotsApart) : (examineDeadlines s).ShotsApart := by
  unfold examineDeadlines
  split
  · exact reexamine_shotsApart h
  · exact h

theorem endWindow_shotsApart (h : s.ShotsApart) : (endWindow s).ShotsApart := by
  unfold endWindow
  split
  · exact h
  · exact h.congr (flagUntaken_assembling ..) (flagUntaken_phase ..)

theorem declareCure_shotsApart (h : s.ShotsApart) : (declareCure s).ShotsApart := by
  unfold declareCure
  split
  · exact h
  · rename_i sh cured
    have press : s.pressPhase.isSome := by
      unfold State.curedShot at cured
      split at cured
      · cases cured
      · rw [(s.pressIn_isSome .curing).mp (by rw [(Option.filter_eq_some_iff.mp cured).1]; rfl)]
        rfl
    refine h.press_changed ?_ ?_ fun _ => press
    · simp only [setNotice_shc, grantOpen]
      split <;> rfl
    · simp [State.pressPhase, grantOpen_press, State.setPress]

theorem countShot_assembling (s : State) : (countShot s).shc.assembling = s.shc.assembling := by
  unfold countShot; split <;> rfl

theorem secondStep_shotsApart (h : s.ShotsApart) : (secondStep s).ShotsApart := by
  have timers : (expireCharges (timeoutCapture 1 (timeoutCapture 0 (timeoutTare 1 (timeoutTare 0 s))))).ShotsApart :=
    h.congr (by simp) (State.pressPhase_of_press (by simp))
  have window := endWindow_shotsApart (examineDeadlines_shotsApart timers)
  have finished : (finishSecond s).ShotsApart := window.congr (by simp [finishSecond])
    (State.pressPhase_of_press (by simp [finishSecond]))
  have clock : (advanceClock (finishSecond s)).ShotsApart := finished.congr (by simp) (State.pressPhase_of_press (by simp))
  exact declareCure_shotsApart (clock.congr (countShot_assembling _) (countShot_phase _))

theorem frameBoundary_shotsApart (h : s.ShotsApart) : (frameBoundary s).ShotsApart := by
  rw [frameBoundary_eq]
  split
  · exact reexamine_shotsApart h
  · exact h

theorem pulse_shotsApart (h : s.ShotsApart) : (pulse s).ShotsApart := by
  unfold pulse
  split
  · exact frameBoundary_shotsApart h
  · split
    · exact frameBoundary_shotsApart h
    · split
      · exact h
      · exact frameBoundary_shotsApart h

/-- A new shot is ASSEMBLING, its cavities EMPTY (R106). -/
theorem arm_shotsApart (slot : Fin 8) (r : Recipe) (mask : BitVec 8) (h : s.ShotsApart) : (arm slot r mask s).ShotsApart := by
  have assembling : (arm slot r mask s).shc.assembling = some (newShot s.shc.shotCounter slot r mask s.clock) := by
    simp [arm]
  have phase : (arm slot r mask s).pressPhase = s.pressPhase := State.pressPhase_of_press (by simp)
  rw [State.shotsApart_iff] at h ⊢
  rw [phase, State.NoneLoaded, assembling]
  refine ⟨fun sh e => ?_, h.2.1, fun _ sh k c e holds => ?_⟩
  · cases e; rfl
  · cases e
    simp only [Shot.Holds, newShot, Table.get_ofFn, Option.ite_none_right_eq_some, Option.some.injEq] at holds
    rw [← holds.2]
    simp [Cavity.fresh]

theorem returnStaged_shotsApart (k : Fin 4) (r : RackRecord) (q : Nat) (h : s.ShotsApart) :
    (returnStaged k r q s).ShotsApart :=
  h.cavity_changed (k := k) (f := Cavity.emptied) (by simp [returnStaged, State.modifyAssembling])
    (State.pressPhase_of_press (by simp)) fun _ => emptied_unloaded

theorem abortAssembling_assembling (sh : Shot) (why : CloseOutcome) (s : State) :
    (abortAssembling sh why s).shc.assembling = none := by
  simp [abortAssembling]

theorem abortAssembling_shotsApart (sh : Shot) (why : CloseOutcome) (h : s.ShotsApart) :
    (abortAssembling sh why s).ShotsApart := by
  refine State.shotsApart_of_none (abortAssembling_assembling ..) ?_
  rw [State.pressPhase_of_press (abortAssembling_press ..)]
  exact (State.shotsApart_iff.mp h).2.1

theorem startCure_assembling (sh : Shot) (s : State) : (startCure sh s).1.shc.assembling = s.shc.assembling := by
  have parts (ks : List (Fin 4)) (sh : Shot) (s : State) :
      (startParts ks sh s).2.1.shc.assembling = s.shc.assembling := by
    induction ks generalizing sh s with
    | nil => rfl
    | cons k rest ih => simp [startParts, ih]
  exact parts ..

theorem openMould_shotsApart (sh : Shot) (early : Bool) (press : s.pressPhase.isSome) (h : s.ShotsApart) :
    (openMould sh early s).ShotsApart := by
  refine h.press_changed ?_ ?_ fun _ => press
  · simp [openMould]
  · simp [openMould, State.pressPhase]

theorem sealIfOut_shotsApart (h : s.ShotsApart) : (sealIfOut s).ShotsApart := by
  unfold sealIfOut
  split
  · split
    · refine h.press_changed ?_ ?_ ?_
      · simp only [sealShot, setNotice_shc, entryFreed_shc, endEject_shc]
        exact foldl_keeps (fun t : State => t.shc.assembling) _ _ _ fun _ _ => by simp
      · simp [sealShot, State.pressPhase]
      · simp [sealShot, State.pressPhase]
    · exact h
  · exact h

theorem clearProduction_shotsApart (h : s.ShotsApart) : (clearProduction s).ShotsApart := by
  have closing (u : State) (hu : u.ShotsApart) : (endClaim .productionReset (endClose .productionReset u)).ShotsApart :=
    hu.congr (by simp) (State.pressPhase_of_press (by simp))
  have pressed (u : State) (none : u.shc.assembling = none) (hu : u.ShotsApart) :
      (match s.pressToAbort with | .none => u | some sh => abortPress sh u).ShotsApart := by
    split
    · exact hu
    · exact State.shotsApart_of_none (by simp [abortPress, none]) (by simp [abortPress_phase])
  unfold clearProduction
  cases assembling : s.shc.assembling with
  | none => exact closing _ (pressed s assembling h)
  | some sh => exact closing _ (pressed _ (abortAssembling_assembling ..) (abortAssembling_shotsApart _ _ h))

/-- The shot table changes by a new shot, a grant of a close, the phases of the press-side shot, and the entries freed. -/
theorem Change.shotsApart (change : Change s t) (h : s.ShotsApart) : t.ShotsApart := by
  have isSome {sh : Shot} (press : s.shc.press = some sh) : s.pressPhase.isSome := by simp [State.pressPhase, press]
  cases change with
  | reset => obtain ⟨-, -, -, -, -, -, -, -, apart⟩ := resetMeetsEveryInvariant; exact apart
  | second => exact secondStep_shotsApart h
  | pulsed => exact pulse_shotsApart h
  | staged k r =>
    exact h.cavity_changed (k := k)
      (f := fun c => { c with state := .staged, chargeId := some r.charge.id, sequence := some s.hrg.nextSeq })
      (by simp [stage, State.modifyAssembling]) (State.pressPhase_of_press (by simp)) fun _ _ => by simp
  | returned => exact returnStaged_shotsApart _ _ _ h
  | armed => exact arm_shotsApart _ _ _ h
  | loaded k r free =>
    exact h.cavity_changed (k := k) rfl (State.pressPhase_of_press (by simp)) fun p => by simp [State.pressPhase, free] at p
  | removed shot k c =>
    exact reexamine_shotsApart (h.cavity_changed (f := Cavity.emptied) (k := k) (by simp [State.modifyAssembling])
      (State.pressPhase_of_press (by simp)) fun _ => emptied_unloaded)
  | closeGranted => exact grantClose_shotsApart h
  | examined => exact examineDeadlines_shotsApart h
  | bumped before after press closing bumping =>
    exact h.press_changed rfl (by simp [State.pressPhase, State.setPress, bumping]) fun _ => isSome press
  | cureStarted before after press =>
    exact h.press_changed (startCure_assembling ..) (by simp [startCure_phase]) fun _ => isSome press
  | openedClosing sh press =>
    refine pressOpened_shotsApart sh (h.press_changed ?_ ?_ fun _ => isSome press)
    · simp [implicitAbort, freePress]
    · simp [implicitAbort, freePress, State.pressPhase]
  | openedAborted sh press =>
    refine pressOpened_shotsApart sh (h.press_changed ?_ ?_ fun _ => isSome press)
    · simp [freePress]
    · simp [freePress, State.pressPhase]
  | openedCure sh early press => exact pressOpened_shotsApart sh (openMould_shotsApart sh early (isSome press) h)
  | assemblingAborted sh why => exact abortAssembling_shotsApart sh why h
  | pressAborted sh press =>
    exact h.press_changed (by simp [abortPress]) (by simp [abortPress_phase]) fun _ => isSome press
  | cleared => exact clearProduction_shotsApart h
  | lockTaken => exact reexamine_shotsApart h
  | lockReleased => exact reexamine_shotsApart h
  | reclaimed =>
    refine reexamine_shotsApart (h.congr ?_ ?_)
    · simp [flagUntaken_assembling]
    · exact (flagUntaken_phase ..).trans (State.pressPhase_of_press (by simp))
  | partOut => exact sealIfOut_shotsApart (h.congr rfl (s.modifyPress_phase fun _ => rfl))
  | takeFailed => exact h.congr rfl (s.modifyPress_phase fun _ => rfl)
  | stuck => exact h.congr rfl (s.modifyPress_phase fun _ => rfl)
  | windowEnded => exact endWindow_shotsApart h
  | portReset p =>
    refine h.congr ?_ (State.pressPhase_of_press ?_)
    · cases p <;> simp [endHeld]
    · cases p <;> simp [endHeld]
  | _ => exact h.congr (by simp) (State.pressPhase_of_press (by simp))

/-- Settles O10: the entries are named by what they hold, and a cavity is LOADED only with no press-side shot. -/
theorem shotTableKeepsOneOfEachKind : Obligations.ShotTableKeepsOneOfEachKind :=
  fun _ _ => step_keeps (fun answered h => h.congr (congrArg Shc.assembling answered.shc)
    (State.pressPhase_of_press (congrArg Shc.press answered.shc))) (fun _ h => h) Change.shotsApart

end Sys2Proof.Machine
end

section
/-! PROOFS. The history ring (R151, R152, R154): every step keeps each retained number in its own slot, and the finding of the last
comparison up to date. -/

namespace Sys2Proof.Machine

variable {s t : State}

/-! ### Sealing and voiding reserved slots -/

/-- What the comparison leaves of the ring depends on the ring alone (R154). -/
theorem compareLow_hrg_congr (same : t.hrg = s.hrg) : (compareLow t).hrg = (compareLow s).hrg := by
  have available : t.available = s.available := State.available_congr (by rw [same]) (by rw [same])
  rw [compareLow_hrg, compareLow_hrg, available, same]

/-- A promise about the ring that a record sealed into its reserved slot keeps, and a reservation given up. -/
structure RingPromise (P : State → Prop) : Prop where
  congr : ∀ {s t : State}, P s → t.hrg = s.hrg → P t
  sealed : ∀ {s : State} (q : Nat) (r : Record), P s → P (sealReserved q r s)
  voided : ∀ {s : State} (q : Nat), P s → P (voidSlot q s)

namespace RingPromise

variable {P : State → Prop} (keeps : RingPromise P)

include keeps

theorem scrapCavity (cause : ScrapCause) (n : Nat) (k : Fin 4) (c : Cavity) (h : P s) :
    P (Machine.scrapCavity cause n k c s) := by
  unfold Machine.scrapCavity
  split
  · exact keeps.congr (keeps.sealed _ _ h) (lowerRefs_hrg ..)
  · exact h

theorem scrapShot (sh : Shot) (h : P s) : P (Machine.scrapShot sh s) :=
  keeps.congr (List.foldlRecOn _ _ h fun _ h _ _ => keeps.scrapCavity _ _ _ _ h) (readyScraps_hrg ..)

theorem sealPart (r : Recipe) (sh : Shot) (k : Fin 4) (c : Cavity) (h : P s) : P (Machine.sealPart r sh k c s) := by
  unfold Machine.sealPart
  split
  · exact keeps.congr (keeps.sealed _ _ h) (lowerRefs_hrg ..)
  · exact h

theorem sealIfOut (h : P s) : P (Machine.sealIfOut s) := by
  unfold Machine.sealIfOut
  split
  · split
    · rename_i sh r _ _ _
      have parts : P ((heldCavities sh.enabled).foldl (fun st x => Machine.sealPart r sh x.1 x.2 st) s) :=
        List.foldlRecOn _ _ h fun _ h _ _ => keeps.sealPart _ _ _ _ h
      exact keeps.congr parts (by simp [sealShot])
    · exact h
  · exact h

theorem returnStaged (k : Fin 4) (r : RackRecord) (q : Nat) (h : P s) : P (Machine.returnStaged k r q s) :=
  keeps.voided q (keeps.congr h rfl)

theorem returnCavity (k : Fin 4) (h : P s) : P (Machine.returnCavity k s) := by
  unfold Machine.returnCavity
  split
  · exact h
  · exact keeps.returnStaged _ _ _ h

theorem abortAssembling (sh : Shot) (why : CloseOutcome) (h : P s) : P (Machine.abortAssembling sh why s) := by
  have ended : P (endClose why s) := keeps.congr h (endClose_hrg ..)
  have returned : P (sh.stagedCavities.foldl (fun st k => Machine.returnCavity k st) (endClose why s)) :=
    List.foldlRecOn _ _ ended fun _ h k _ => keeps.returnCavity k h
  exact keeps.congr (keeps.scrapShot sh returned) (by simp [Machine.abortAssembling])

theorem abortPress (sh : Shot) (h : P s) : P (Machine.abortPress sh s) :=
  keeps.congr (keeps.scrapShot sh h) rfl

theorem clearProduction (h : P s) : P (Machine.clearProduction s) := by
  have closing (u : State) (hu : P u) : P (endClaim .productionReset (endClose .productionReset u)) :=
    keeps.congr hu (by simp)
  have pressed (u : State) (hu : P u) : P (match s.pressToAbort with | none => u | some sh => Machine.abortPress sh u) := by
    split
    · exact hu
    · exact keeps.abortPress _ hu
  unfold Machine.clearProduction
  cases s.shc.assembling with
  | none => exact closing _ (pressed s h)
  | some sh => exact closing _ (pressed _ (keeps.abortAssembling _ _ h))

/-- What is left for a promise about the ring: the reset line, the issue of a number with its comparison, the mark, the wall clock and
the collecting. -/
theorem change (change : Change s t) (h : P s) (reset : P State.reset) (issued : ∀ {s} {content : Nat → Slot},
      (∀ q, (content q).sequence = some q) → P s → P (compareLow (issue content s)))
    (marked : ∀ mark, P (compareLow { s with hrg := { s.hrg with lowMark := mark } }))
    (timed : ∀ offset set, P { s with hrg := { s.hrg with wallOffset := offset, wallSet := set } })
    (collected : ∀ n, P (collectUpTo n s)) : P t := by
  have scrapped (r : ScrapRecord) (u : State) (same : u.hrg = s.hrg) : P (scrapNow r u) := by
    have issued : P (compareLow (issue (fun q => .sealed q (.scrap r)) u)) := issued (fun _ => rfl) (keeps.congr h same)
    exact keeps.congr issued (compareLow_hrg_congr (by simp))
  cases change with
  | reset => exact keeps.congr reset rfl
  | sessionScrapped r => exact scrapped r _ (by simp)
  | rackScrapped r => exact scrapped r _ rfl
  | staged k r => exact keeps.congr (issued (content := .reserved) (fun _ => rfl) h) rfl
  | returned k r q => exact keeps.returnStaged k r q h
  | removed n k c => exact keeps.congr (keeps.scrapCavity .removedFromCavity n k c h) (by simp [removeFrom])
  | openedClosing sh => exact keeps.congr (keeps.scrapShot sh h) (by simp [implicitAbort])
  | assemblingAborted sh why => exact keeps.abortAssembling sh why h
  | pressAborted sh => exact keeps.abortPress sh h
  | cleared => exact keeps.clearProduction h
  | partOut k f => exact keeps.sealIfOut (keeps.congr h rfl)
  | historySet mark => exact marked mark
  | timeSet offset set => exact timed offset set
  | collected n => exact collected n
  | _ => exact keeps.congr h (by simp)

end RingPromise

/-! ### Numbers and their slots -/

/-- Slots that change without their numbers keep each number in its slot. -/
theorem State.RingSound.of_sequences (h : s.RingSound) (next : t.hrg.nextSeq = s.hrg.nextSeq)
    (pos : t.hrg.writePos = s.hrg.writePos)
    (same : ∀ i, (t.hrg.slots.get i).sequence = (s.hrg.slots.get i).sequence) : t.RingSound := by
  have newest : t.newest = s.newest := by simp [State.newest, next]
  have oldest : t.oldest = s.oldest := by simp [State.oldest, newest]
  simpa only [State.RingSound, next, pos, same, newest, oldest] using h

theorem State.RingSound.congr (h : s.RingSound) (same : t.hrg = s.hrg) : t.RingSound :=
  h.of_sequences (by rw [same]) (by rw [same]) fun _ => by rw [same]

theorem compareLow_ringSound (h : s.RingSound) : (compareLow s).RingSound :=
  h.of_sequences (by rw [compareLow_hrg]) (by rw [compareLow_hrg]) fun _ => by rw [compareLow_hrg]

theorem slotOf_eq_iff (q n : Nat) : slotOf q = slotOf n ↔ (q - 1) % 256 = (n - 1) % 256 := by
  simp [slotOf, Fin.ext_iff]

theorem slotOf_succ {n : Nat} (h : 0 < n) : slotOf n + 1 = slotOf (n + 1) := by
  apply Fin.ext
  simp only [slotOf, Fin.ofNat, Fin.val_add]
  have : ((1 : Fin 256) : Nat) = 1 := rfl
  omega

/-- The issue of a number takes the slot of the number 256 below it, which is no longer retained (R151, R152). -/
theorem issue_ringSound {content : Nat → Slot} (numbered : ∀ q, (content q).sequence = some q) (h : s.RingSound) :
    (issue content s).RingSound := by
  obtain ⟨positive, position, retained, held⟩ := h
  have slots (i : Fin 256) : ((issue content s).hrg.slots.get i).sequence =
      if i = slotOf s.hrg.nextSeq then some s.hrg.nextSeq else (s.hrg.slots.get i).sequence := by
    simp only [issue, position, Table.get_set]
    split
    · exact numbered _
    · rfl
  have newest : (issue content s).newest = s.hrg.nextSeq := by simp [State.newest, issue]
  have oldest : (issue content s).oldest = max 1 (s.hrg.nextSeq - 255) := by simp [State.oldest, newest]
  simp only [State.oldest, State.newest] at retained held
  refine ⟨Nat.succ_pos _, ?_, fun q low high => ?_, fun i q hq => ?_⟩
  · rw [show (issue content s).hrg.writePos = s.hrg.writePos + 1 from rfl, position, slotOf_succ positive]; rfl
  · rw [oldest] at low
    rw [newest] at high
    rw [slots]
    by_cases last : q = s.hrg.nextSeq
    · simp [last]
    · have before : max 1 (s.hrg.nextSeq - 1 - 255) ≤ q ∧ q ≤ s.hrg.nextSeq - 1 := by omega
      have other : slotOf q ≠ slotOf s.hrg.nextSeq := fun e => by have := (slotOf_eq_iff ..).mp e; omega
      rw [if_neg other]
      exact retained q before.1 before.2
  · rw [slots] at hq
    rw [oldest, newest]
    split at hq
    · rename_i here
      cases hq
      exact ⟨by omega, le_rfl, here.symm⟩
    · rename_i other
      obtain ⟨low, high, here⟩ := held i q hq
      have apart : ¬ (q - 1) % 256 = (s.hrg.nextSeq - 1) % 256 := fun e =>
        other (here.symm.trans ((slotOf_eq_iff ..).mpr e))
      have bounds : max 1 (s.hrg.nextSeq - 255) ≤ q ∧ q ≤ s.hrg.nextSeq := by clear here other; omega
      exact ⟨bounds.1, bounds.2, here⟩

theorem replaceReserved_ringSound {q : Nat} {c : Slot} (numbered : c.sequence = some q) (h : s.RingSound) :
    (replaceReserved q c s).RingSound := by
  unfold replaceReserved
  split
  · rename_i reserved
    refine h.of_sequences rfl rfl fun i => ?_
    simp only [Table.get_set]
    split
    · rename_i here; rw [here, reserved, numbered]; rfl
    · rfl
  · exact h

theorem collect_sequence (n : Nat) (x : Slot) : (x.collect n).sequence = x.sequence := by
  cases x with
  | sealed q r => simp only [Slot.collect]; split <;> rfl
  | _ => rfl

theorem ringSound_promise : RingPromise State.RingSound where
  congr := State.RingSound.congr
  sealed _ _ := replaceReserved_ringSound rfl
  voided _ h := compareLow_ringSound (replaceReserved_ringSound rfl h)

theorem Change.ringSound (change : Change s t) (h : s.RingSound) : t.RingSound := by
  obtain ⟨-, -, -, -, -, -, reset, -⟩ := resetMeetsEveryInvariant
  refine ringSound_promise.change change h reset (fun numbered h => compareLow_ringSound (issue_ringSound numbered h))
    (fun _ => compareLow_ringSound (h.of_sequences rfl rfl fun _ => rfl)) (fun _ _ => h.of_sequences rfl rfl fun _ => rfl)
    fun n => compareLow_ringSound (h.of_sequences rfl rfl fun i => ?_)
  simp only [Table.get_mapIdx, collect_sequence]

/-! ### The comparison -/

theorem sealReserved_low (q : Nat) (r : Record) (h : s.LowCompared) : (sealReserved q r s).LowCompared := by
  unfold State.LowCompared
  rw [sealReserved_available]
  unfold sealReserved replaceReserved
  split <;> exact h

theorem lowCompared_promise : RingPromise State.LowCompared where
  congr h same := h.congr same.symm
  sealed := sealReserved_low
  voided _ _ := compareLow_compared _

theorem Change.lowCompared (change : Change s t) (h : s.LowCompared) : t.LowCompared := by
  obtain ⟨-, -, -, -, -, -, -, reset, -⟩ := resetMeetsEveryInvariant
  exact lowCompared_promise.change change h reset (fun _ _ => compareLow_compared _) (fun _ => compareLow_compared _)
    (fun _ _ => h) fun _ => compareLow_compared _

/-- Settles O9: a number is issued into the slot of the one 256 below it, and whatever changes the count or the mark compares. -/
theorem ringKeepsEveryRetainedNumber : Obligations.RingKeepsEveryRetainedNumber := fun _ _ stepped =>
  ⟨fun h => step_keeps (fun answered h => h.congr answered.hrg) (fun _ h => h) Change.ringSound h stepped,
    fun h => step_keeps (fun answered h => h.congr answered.hrg.symm) (fun _ h => h) Change.lowCompared h stepped⟩

end Sys2Proof.Machine
end

section
/-! PROOFS. The lots (R79, R82, R86): every step keeps a lot current at one scale at most, and the lot table in strictly ascending
order with 32 entries at most. -/

namespace Sys2Proof.Machine

variable {s t : State}

/-! ### What leaves the current lots -/

/-- The lot that is current at a scale (R82). -/
def State.current (s : State) (j : Fin 2) : Option Nat :=
  (s.scales.get j).currentLot

theorem State.current_of_scales (h : t.scales = s.scales) (j : Fin 2) : t.current j = s.current j := by
  rw [State.current, State.current, h]

theorem State.modifyScale_current (s : State) (k : Fin 2) {f : Scale → Scale} (kept : ∀ x, (f x).currentLot = x.currentLot)
    (j : Fin 2) : (s.modifyScale k f).current j = s.current j := by
  simp only [State.current, State.modifyScale, Table.get_modify]
  split
  · rename_i here; rw [kept, here]
  · rfl

theorem timeoutTare_current (k : Fin 2) (s : State) (j : Fin 2) : (timeoutTare k s).current j = s.current j := by
  unfold timeoutTare
  split
  · exact s.modifyScale_current k (f := Scale.leaveTaring) (fun _ => rfl) j
  · rfl

theorem endCapture_current (k : Fin 2) (e : Session) (s : State) (j : Fin 2) : (endCapture k e s).current j = s.current j :=
  (State.current_of_scales (releaseLotOpt_scales ..) j).trans
    (s.modifyScale_current k (f := fun x => x.leaveCapturing e) (fun _ => rfl) j)

theorem timeoutCapture_current (k : Fin 2) (s : State) (j : Fin 2) : (timeoutCapture k s).current j = s.current j := by
  unfold timeoutCapture
  split
  · rfl
  · split
    · exact endCapture_current k _ s j
    · rfl

theorem settleCapture_current (k : Fin 2) (s : State) (j : Fin 2) : (settleCapture k s).current j = s.current j := by
  unfold settleCapture
  dsimp only
  split
  · rfl
  · split
    · exact endCapture_current k _ s j
    · exact (endCapture_current k _ _ j).trans (State.current_of_scales (by simp) j)

theorem settleTare_current (k : Fin 2) (s : State) (j : Fin 2) : (settleTare k s).current j = s.current j :=
  s.modifyScale_current k (f := fun x => { x.leaveTaring with zero := x.newZero, tareTime := some s.clock }) (fun _ => rfl) j

theorem withReference_currentLot (x : Scale) (a : Arrival) : (x.withReference a).currentLot = x.currentLot := by
  unfold Scale.withReference; split <;> rfl

theorem deliver_current (k : Fin 2) (a : Arrival) (s : State) (j : Fin 2) : (deliver k a s).current j = s.current j := by
  unfold deliver
  split
  · exact s.modifyScale_current k (f := fun x => x.observe a) (fun _ => rfl) j
  · exact s.modifyScale_current k (f := fun x => x.observe a) (fun _ => rfl) j
  · dsimp only
    have joined := s.modifyScale_current k
      (f := fun x => ((x.observe a).withReference a).joinWindow (((x.observe a).withReference a).tareEntry a))
      (fun x => withReference_currentLot (x.observe a) a) j
    split
    · exact (settleTare_current ..).trans joined
    · exact joined
  · dsimp only
    have joined := s.modifyScale_current k (f := fun x => (x.observe a).joinWindow (x.captureEntry a)) (fun _ => rfl) j
    split
    · exact (settleCapture_current ..).trans joined
    · exact joined

theorem arriveLc_current (channel : Nat) (st : LcResult) (count : Int) (s : State) (j : Fin 2) :
    (arriveLc channel st count s).current j = s.current j := by
  unfold arriveLc
  split
  · exact State.current_of_scales (by simp) j
  · split
    · exact (State.current_of_scales (startLc_scales ..) j).trans (deliver_current _ _ _ j)
    · exact State.current_of_scales (by simp) j

theorem expireConversion_current (link : Converter) (s : State) (j : Fin 2) :
    (expireConversion link s).current j = s.current j := by
  unfold expireConversion
  split <;> split
  · exact State.current_of_scales (by simp) j
  · exact State.current_of_scales (by simp) j
  · exact State.current_of_scales (by simp) j
  · exact (State.current_of_scales (startLc_scales ..) j).trans (deliver_current _ _ _ j)

theorem abandonSession_current (k : Fin 2) (e : Session) (s : State) (j : Fin 2) :
    (abandonSession k e s).current j = s.current j :=
  (State.current_of_scales (releaseLotOpt_scales ..) j).trans
    (s.modifyScale_current k (f := Scale.dropSession) (fun _ => rfl) j)

theorem closeInto_current (position : Nat) (k : Fin 2) (e : Session) (s : State) (j : Fin 2) :
    (closeInto position k e s).1.current j = s.current j :=
  (State.current_of_scales (enterRack_scales ..) j).trans
    ((State.modifyScale_current _ k (f := Scale.dropSession) (fun _ => rfl) j).trans (State.current_of_scales (by simp) j))

theorem secondStep_current (s : State) (j : Fin 2) : (secondStep s).current j = s.current j := by
  refine (State.current_of_scales (s := timeoutCapture 1 (timeoutCapture 0 (timeoutTare 1 (timeoutTare 0 s))))
    (by simp [secondStep, finishSecond]) j).trans ?_
  rw [timeoutCapture_current, timeoutCapture_current, timeoutTare_current, timeoutTare_current]

/-! ### The promise about the lots -/

/-- The IDs of the lot table, in its order. -/
def State.lotIds (s : State) : List Nat :=
  s.ltr.lots.map Lot.id

/-- The two promises about the lots together. -/
def State.LotsSound (s : State) : Prop :=
  s.LotsApart ∧ s.LotTableSound

theorem State.lotsApart_iff : s.LotsApart ↔ ∀ i j lot, i ≠ j → s.current i = some lot → s.current j ≠ some lot := by
  constructor
  · intro h i j lot ne hi hj
    fin_cases i <;> fin_cases j
    · exact ne rfl
    · exact h lot hi hj
    · exact h lot hj hi
    · exact ne rfl
  · exact fun h lot => h 0 1 lot (by decide)

theorem State.lotTableSound_iff : s.LotTableSound ↔ s.lotIds.Pairwise (· < ·) ∧ s.lotIds.length ≤ Config.lotRoom := by
  simp [State.LotTableSound, State.lotIds, List.pairwise_map]

theorem State.LotsApart.congr (h : s.LotsApart) (same : ∀ j, t.current j = s.current j) : t.LotsApart := by
  rw [State.lotsApart_iff] at h ⊢
  simpa only [same] using h

theorem State.LotTableSound.of_sublist (h : s.LotTableSound) (sub : t.lotIds.Sublist s.lotIds) : t.LotTableSound := by
  rw [State.lotTableSound_iff] at h ⊢
  exact ⟨h.1.sublist sub, sub.length_le.trans h.2⟩

theorem State.LotsSound.of_sublist (h : s.LotsSound) (current : ∀ j, t.current j = s.current j)
    (ids : t.lotIds.Sublist s.lotIds) : t.LotsSound :=
  ⟨h.1.congr current, h.2.of_sublist ids⟩

theorem State.LotsSound.congr (h : s.LotsSound) (current : ∀ j, t.current j = s.current j) (ids : t.lotIds = s.lotIds) :
    t.LotsSound :=
  h.of_sublist current (by rw [ids])

/-- The scales after a lot new to scale `k` is made current there: the other scale loses it if it had it (R82). -/
theorem makeCurrent_scales {k : Fin 2} {lot : Nat} (new : s.current k ≠ some lot) :
    (makeCurrent k lot s).scales = ((if s.migrates k lot then migrate k lot s else s).setCurrentLot k (some lot)).scales := by
  have unfolded : makeCurrent k lot s = releaseLot? (s.scales.get k).currentLot
      ((if s.migrates k lot then migrate k lot s else s).setCurrentLot k (some lot)) := if_neg new
  rw [unfolded, releaseLotOpt_scales]

theorem makeCurrent_current_self {k : Fin 2} {lot : Nat} (new : s.current k ≠ some lot) :
    (makeCurrent k lot s).current k = some lot := by
  rw [State.current, makeCurrent_scales new]
  simp [State.setCurrentLot, State.modifyScale]

theorem makeCurrent_current_other {k j : Fin 2} {lot : Nat} (new : s.current k ≠ some lot) (ne : j ≠ k) :
    (makeCurrent k lot s).current j = if s.current j = some lot then none else s.current j := by
  have here : otherScale k = j := by
    revert ne; fin_cases k <;> fin_cases j <;> decide
  rw [State.current, makeCurrent_scales new]
  simp only [State.setCurrentLot, State.modifyScale, Table.get_modify_ne _ _ ne, State.migrates, here, beq_iff_eq]
  unfold State.current
  split
  · simp [migrate, State.setCurrentLot, State.modifyScale, here]
  · rfl

/-- Scale `k` takes a lot: the other scale loses it if it had it, and the lot it replaces leaves (R82). -/
theorem makeCurrent_apart (k : Fin 2) (lot : Nat) (h : s.LotsApart) : (makeCurrent k lot s).LotsApart := by
  by_cases new : s.current k = some lot
  · have same : makeCurrent k lot s = s := by unfold makeCurrent; exact if_pos new
    rw [same]; exact h
  · have taken := makeCurrent_current_self new
    have other := fun j => makeCurrent_current_other (j := j) new
    rw [State.lotsApart_iff]
    intro i j l ne hi hj
    by_cases ik : i = k
    · subst ik
      rw [taken] at hi
      rw [other j (Ne.symm ne), hi] at hj
      split at hj
      · cases hj
      · exact absurd hj ‹_›
    · have jk : j = k := by
        have : ∀ i j k : Fin 2, i ≠ j → i ≠ k → j = k := by decide
        exact this i j k ne ik
      subst jk
      rw [taken] at hj
      rw [other i ne, hj] at hi
      split at hi
      · cases hi
      · exact absurd hi ‹_›

theorem makeCurrent_lotsSound (k : Fin 2) (lot : Nat) (h : s.LotsSound) : (makeCurrent k lot s).LotsSound := by
  refine ⟨makeCurrent_apart k lot h.1, h.2.of_sublist ?_⟩
  rw [show (makeCurrent k lot s).lotIds = s.lotIds from (makeCurrent_material ..).2]

/-- The IDs after a lot is put in its place. -/
theorem mem_insertLot_ids {l : Lot} {lots : List Lot} {id : Nat} :
    id ∈ (insertLot l lots).map Lot.id ↔ id = l.id ∨ id ∈ lots.map Lot.id := by
  induction lots with
  | nil => simp [insertLot]
  | cons m rest ih =>
    unfold insertLot
    split
    · simp
    · simp only [List.map_cons, List.mem_cons, ih]; tauto

theorem insertLot_length (l : Lot) (lots : List Lot) : (insertLot l lots).length = lots.length + 1 := by
  induction lots with
  | nil => rfl
  | cons m rest ih =>
    unfold insertLot
    split
    · rfl
    · simp [ih]

/-- A new ID put in its place keeps the ascending order (R86). -/
theorem insertLot_ascending {l : Lot} {lots : List Lot} (ascending : (lots.map Lot.id).Pairwise (· < ·))
    (fresh : l.id ∉ lots.map Lot.id) : ((insertLot l lots).map Lot.id).Pairwise (· < ·) := by
  induction lots with
  | nil => simp [insertLot]
  | cons m rest ih =>
    obtain ⟨least, others⟩ := List.pairwise_cons.mp ascending
    simp only [List.map_cons, List.mem_cons, not_or] at fresh
    unfold insertLot
    split
    · rename_i below
      exact List.pairwise_cons.mpr ⟨fun id mem => (List.mem_cons.mp mem).elim (· ▸ below) fun m => below.trans (least id m),
        ascending⟩
    · refine List.pairwise_cons.mpr ⟨fun id mem => ?_, ih others fresh.2⟩
      rcases mem_insertLot_ids.mp mem with e | m
      · rw [e]; omega
      · exact least id m

theorem mem_of_oldestSeen {lots : List Lot} {l : Lot} (h : oldestSeen lots = some l) : l ∈ lots := by
  induction lots with
  | nil => cases h
  | cons m rest ih =>
    unfold oldestSeen at h
    split at h
    · cases h; simp
    · rename_i n found
      split at h
      · cases h; exact List.mem_cons_of_mem _ (ih found)
      · cases h; simp

/-- The room for a lot is the table with at most one entry less, and fewer than 32 (R80, R81). -/
theorem State.roomForLot_spec {room : List Lot} (h : s.roomForLot = some room) (bounded : s.ltr.lots.length ≤ Config.lotRoom) :
    room.Sublist s.ltr.lots ∧ room.length < Config.lotRoom := by
  unfold State.roomForLot at h
  split at h
  · cases h; exact ⟨.refl _, ‹_›⟩
  · obtain ⟨l, oldest, rfl⟩ := Option.map_eq_some_iff.mp h
    have mem : l ∈ s.ltr.lots := List.mem_of_mem_filter (mem_of_oldestSeen oldest)
    refine ⟨List.filter_sublist, lt_of_lt_of_le ?_ bounded⟩
    exact List.length_filter_lt_length_iff_exists.mpr ⟨l, mem, by simp⟩

theorem learnLot_lots (k : Fin 2) (lot material minutes : Nat) (room : List Lot) (s : State) :
    ∃ d, (learnLot k lot material minutes room s).1.ltr.lots =
      insertLot { id := lot, material := material, deadline := d, lastScale := k.val, lastSeen := s.clock, refs := 0 } room :=
  ⟨_, rfl⟩

/-- The table has no entry of an unknown lot. -/
theorem State.not_mem_of_unknown {lot : Nat} (h : s.lot? lot = none) : lot ∉ s.lotIds := by
  simpa [State.lot?, State.lotIds] using h

/-- A lot is learned into a table with room for it, in its place (R81). -/
theorem learnLot_lotsSound (k : Fin 2) {lot : Nat} (material minutes : Nat) {room : List Lot} (unknown : s.lot? lot = none)
    (fits : s.roomForLot = some room) (h : s.LotsSound) : (learnLot k lot material minutes room s).1.LotsSound := by
  obtain ⟨apart, table⟩ := h
  obtain ⟨sub, length⟩ := State.roomForLot_spec fits table.2
  obtain ⟨d, lots⟩ := learnLot_lots k lot material minutes room s
  refine ⟨apart.congr (State.current_of_scales (learnLot_scales ..)), ?_⟩
  rw [State.lotTableSound_iff] at table ⊢
  rw [State.lotIds, lots]
  have fresh : lot ∉ room.map Lot.id := fun m => State.not_mem_of_unknown unknown ((sub.map _).subset m)
  exact ⟨insertLot_ascending (table.1.sublist (sub.map _)) fresh, by simpa [insertLot_length] using length⟩

theorem State.withLots_filter_ids (s : State) (p : Lot → Bool) : (s.withLots (s.ltr.lots.filter p)).lotIds.Sublist s.lotIds :=
  List.filter_sublist.map _

/-! ### Every step keeps it -/

theorem returnCavity_lotIds (k : Fin 4) (s : State) : (returnCavity k s).lotIds = s.lotIds := by
  unfold returnCavity
  split
  · rfl
  · simp [returnStaged, State.lotIds, State.modifyRack]

theorem abortAssembling_lotIds (sh : Shot) (why : CloseOutcome) (s : State) :
    (abortAssembling sh why s).lotIds = s.lotIds := by
  have same : (abortAssembling sh why s).lotIds =
      (sh.stagedCavities.foldl (fun st k => returnCavity k st) (endClose why s)).lotIds := by
    simp [abortAssembling, State.lotIds]
  rw [same, foldl_keeps State.lotIds _ _ _ fun _ _ => returnCavity_lotIds ..]
  simp [State.lotIds]

theorem abortPress_lotIds (sh : Shot) (s : State) : (abortPress sh s).lotIds = s.lotIds := by
  simp [abortPress, State.lotIds]

theorem clearProduction_lotIds (s : State) : (clearProduction s).lotIds = s.lotIds := by
  have same (u : State) : (endClaim .productionReset (endClose .productionReset u)).lotIds = u.lotIds := by
    simp [State.lotIds]
  unfold clearProduction
  rw [same]
  cases s.shc.assembling with
  | none => cases s.pressToAbort with
    | none => rfl
    | some sh => exact abortPress_lotIds ..
  | some a => cases s.pressToAbort with
    | none => exact abortAssembling_lotIds ..
    | some sh => exact (abortPress_lotIds ..).trans (abortAssembling_lotIds ..)

theorem expireCharge_lotIds (id : Nat) (s : State) : (expireCharge id s).lotIds = s.lotIds := by
  unfold expireCharge
  split
  · rfl
  · unfold expireRecord
    split <;> rfl

theorem expireCharges_lotIds (s : State) : (expireCharges s).lotIds = s.lotIds :=
  foldl_keeps State.lotIds _ _ _ fun _ _ => expireCharge_lotIds ..

theorem enterRack_lots (c : Charge) (position : Nat) (s : State) : (enterRack c position s).ltr.lots = s.ltr.lots := by
  unfold enterRack
  dsimp only
  split_ifs <;> rfl

theorem secondStep_lotIds (s : State) : (secondStep s).lotIds.Sublist s.lotIds := by
  have tail (u : State) : (declareCure (countShot (advanceClock u))).lotIds = u.lotIds := by simp [State.lotIds]
  have timers : (endStandbyWait (endWindow (examineDeadlines (expireCharges
      (timeoutCapture 1 (timeoutCapture 0 (timeoutTare 1 (timeoutTare 0 s)))))))).lotIds = s.lotIds := by
    have expired := expireCharges_lotIds (timeoutCapture 1 (timeoutCapture 0 (timeoutTare 1 (timeoutTare 0 s))))
    simpa [State.lotIds] using expired
  rw [secondStep, tail, ← timers]
  exact State.withLots_filter_ids _ _

/-- The current lots and the lot table change where a lot is declared, and the table where one ages out of it. -/
theorem Change.lotsSound (change : Change s t) (h : s.LotsSound) : t.LotsSound := by
  cases change with
  | reset => obtain ⟨-, -, -, apart, table, -⟩ := resetMeetsEveryInvariant; exact ⟨apart, table⟩
  | second => exact h.of_sublist (secondStep_current s) (secondStep_lotIds s)
  | lcArrived => exact h.congr (arriveLc_current _ _ _ s) (by simp [State.lotIds])
  | expired link => exact h.congr (expireConversion_current link s) (by simp [State.lotIds])
  | weighed n k f lot => exact h.congr (State.modifyScale_current _ k lot) rfl
  | tareEnded k => exact h.congr (timeoutTare_current k s) (by simp [State.lotIds])
  | captureEnded k => exact h.congr (timeoutCapture_current k s) (by simp [State.lotIds])
  | racked position k e => exact h.congr (closeInto_current position k e s) (by simp [State.lotIds, closeInto, enterRack_lots])
  | abandoned k e => exact h.congr (abandonSession_current k e s) (by simp [State.lotIds])
  | sessionScrapped r k e =>
    exact h.congr (fun j => (State.current_of_scales (scrapNow_scales ..) j).trans (abandonSession_current k e s j))
      (by simp [State.lotIds])
  | redeclared k lot =>
    refine makeCurrent_lotsSound k lot (h.congr (State.current_of_scales rfl) ?_)
    exact s.modifyLot_ids lot fun _ => rfl
  | learned k lot material minutes room unknown fits =>
    exact makeCurrent_lotsSound k lot (learnLot_lotsSound k material minutes unknown fits h)
  | aged lot => exact h.of_sublist (State.current_of_scales rfl) (s.withLots_filter_ids _)
  | chargeExpired id => exact h.congr (State.current_of_scales (by simp)) (expireCharge_lotIds id s)
  | rackScrapped => exact h.congr (State.current_of_scales (by simp)) (by simp [State.lotIds, State.leaveRack])
  | staged => exact h.congr (State.current_of_scales (by simp)) (by simp [State.lotIds, stage, State.modifyRack])
  | returned => exact h.congr (State.current_of_scales (by simp)) (by simp [State.lotIds, returnStaged, State.modifyRack])
  | loaded => exact h.congr (State.current_of_scales rfl) rfl
  | removed => exact h.congr (State.current_of_scales (by simp)) (by simp [State.lotIds, removeFrom])
  | openedClosing => exact h.congr (State.current_of_scales (by simp)) (by simp [State.lotIds, implicitAbort])
  | assemblingAborted => exact h.congr (State.current_of_scales (by simp)) (abortAssembling_lotIds ..)
  | pressAborted => exact h.congr (State.current_of_scales (by simp)) (abortPress_lotIds ..)
  | cleared => exact h.congr (State.current_of_scales (by simp)) (clearProduction_lotIds s)
  | _ => exact h.congr (State.current_of_scales (by simp)) (by simp [State.lotIds])

/-- Settles O7: only a declaration makes a lot current, and it takes it from the other scale; the table learns a lot it does not
hold in its place, into room for it. -/
theorem lotsStaySound : Obligations.LotsStaySound := fun _ _ apart table stepped =>
  step_keeps (P := State.LotsSound) (fun answered h => h.congr (State.current_of_scales answered.scales)
    (congrArg (fun l : Ltr => l.lots.map Lot.id) answered.ltr)) (fun _ h => h) Change.lotsSound ⟨apart, table⟩ stepped

end Sys2Proof.Machine
end

section
/-! PROOFS. The notice sets (R171): every step keeps each of them at 32 notices or fewer. -/

namespace Sys2Proof.Machine

variable {s t : State}

/-! ### The promise and the setting of a notice -/

theorem State.NoticesBounded.of_notices (h : s.NoticesBounded)
    (same : ∀ p, (t.ports.get p).notices = (s.ports.get p).notices) : t.NoticesBounded :=
  fun p => (congrArg List.length (same p)).trans_le (h p)

theorem State.NoticesBounded.congr (h : s.NoticesBounded) (same : t.ports = s.ports) : t.NoticesBounded :=
  h.of_notices fun _ => by rw [same]

/-- A port's own state changed so that its set is bounded. -/
theorem State.NoticesBounded.modifyPort (h : s.NoticesBounded) (p : Port) {f : PortState → PortState}
    (bounded : (f (s.ports.get p)).notices.length ≤ Config.noticeRoom) : (s.modifyPort p f).NoticesBounded := by
  intro q
  by_cases here : q = p
  · subst here; rwa [State.modifyPort_get_self]
  · rw [State.modifyPort_get_ne _ _ here]; exact h q

/-- On a full set the oldest leaves (R171). -/
theorem State.NoticesBounded.setNotice (h : s.NoticesBounded) (p : Port) (b : NoticeBody) : (setNotice p b s).NoticesBounded :=
  h.modifyPort p (PortState.join_length _ _ (h p))

theorem State.NoticesBounded.told (h : s.NoticesBounded) (p : Port) (bs : List NoticeBody) : (s.told p bs).NoticesBounded :=
  List.foldlRecOn _ _ h fun _ h b _ => h.setNotice p b

/-- An outcome of a held request is no notice (R177). -/
theorem State.NoticesBounded.outcome (h : s.NoticesBounded) (heldFetch : Option Nat) (closed : Option CloseOutcome)
    (opened : Option OpenOutcome) (ejected : Option EjectOutcome) (claimed : Option ClaimOutcome)
    (same : t.ports = { s.ports with
      heldFetch := heldFetch, closeOutcome := closed, openOutcome := opened, ejectOutcome := ejected
      claimOutcome := claimed }) : t.NoticesBounded :=
  h.of_notices fun p => by rw [same]; cases p <;> rfl

/-! ### The ring, the rack and the lots -/

theorem compareLow_bounded (h : s.NoticesBounded) : (compareLow s).NoticesBounded := by
  unfold compareLow
  dsimp only
  split
  · exact ((h.congr rfl).setNotice .press _).setNotice .trace _
  · exact h.congr rfl

theorem reserve_bounded (h : s.NoticesBounded) : (reserve s).NoticesBounded :=
  compareLow_bounded (h.congr rfl)

theorem voidSlot_bounded (q : Nat) (h : s.NoticesBounded) : (voidSlot q s).NoticesBounded :=
  compareLow_bounded (h.congr (replaceReserved_ports ..))

theorem readyScraps_bounded (qs : List Nat) (h : s.NoticesBounded) : (readyScraps qs s).NoticesBounded := by
  unfold readyScraps
  split
  · exact h
  · exact h.setNotice _ _

theorem scrapNow_bounded (r : ScrapRecord) (h : s.NoticesBounded) : (scrapNow r s).NoticesBounded :=
  compareLow_bounded (readyScraps_bounded _ (h.congr (by simp)))

theorem enterRack_bounded (c : Charge) (position : Nat) (h : s.NoticesBounded) : (enterRack c position s).NoticesBounded := by
  have branch {a b : State} {p : Prop} [Decidable p] (ha : a.NoticesBounded) (hb : b.NoticesBounded) :
      (if p then a else b).NoticesBounded := by
    split
    · exact ha
    · exact hb
  refine branch (State.NoticesBounded.setNotice (branch (State.NoticesBounded.setNotice ?_ _ _) ?_) _ _)
    (branch (State.NoticesBounded.setNotice ?_ _ _) ?_) <;> exact h.congr rfl

theorem closeInto_bounded (position : Nat) (k : Fin 2) (e : Session) (h : s.NoticesBounded) :
    (closeInto position k e s).1.NoticesBounded :=
  enterRack_bounded _ _ (h.congr (by simp))

theorem makeCurrent_bounded (k : Fin 2) (lot : Nat) (h : s.NoticesBounded) : (makeCurrent k lot s).NoticesBounded := by
  unfold makeCurrent
  split
  · exact h
  · dsimp only
    refine State.NoticesBounded.congr ?_ (releaseLotOpt_ports ..)
    split
    · exact (State.NoticesBounded.setNotice (h.congr rfl) .charge _).congr rfl
    · exact h.congr rfl

theorem expireCharge_bounded (id : Nat) (h : s.NoticesBounded) : (expireCharge id s).NoticesBounded := by
  unfold expireCharge
  split
  · exact h
  · unfold expireRecord
    split
    · exact State.NoticesBounded.setNotice (h.congr rfl) .charge _
    · exact h

theorem expireCharges_bounded (h : s.NoticesBounded) : (expireCharges s).NoticesBounded :=
  List.foldlRecOn _ _ h fun _ h i _ => expireCharge_bounded i h

theorem stage_bounded (k : Fin 4) (r : RackRecord) (h : s.NoticesBounded) : (stage k r s).NoticesBounded :=
  (reserve_bounded h).congr rfl

theorem returnStaged_bounded (k : Fin 4) (r : RackRecord) (q : Nat) (h : s.NoticesBounded) :
    (returnStaged k r q s).NoticesBounded :=
  voidSlot_bounded q (h.congr rfl)

/-! ### The close, the lock and the demould state -/

theorem endClose_bounded (why : CloseOutcome) (h : s.NoticesBounded) : (endClose why s).NoticesBounded := by
  unfold endClose
  split
  · exact h
  · exact State.NoticesBounded.setNotice (h.outcome _ _ _ _ _ rfl) .press _

theorem grantClose_bounded (h : s.NoticesBounded) : (grantClose s).NoticesBounded := by
  unfold grantClose
  split
  · exact h
  · exact h.outcome _ _ _ _ _ rfl

theorem reexamine_bounded (h : s.NoticesBounded) : (reexamine s).NoticesBounded := by
  rcases reexamine_cases s with e | ⟨_, _, why, _, _, e⟩ | ⟨_, _, _, _, _, _, e⟩
  · rw [e]; exact h
  · rw [e]; exact endClose_bounded why h
  · rw [e]; exact (grantClose_bounded h).setNotice _ _

theorem examineDeadlines_bounded (h : s.NoticesBounded) : (examineDeadlines s).NoticesBounded := by
  unfold examineDeadlines
  split
  · exact reexamine_bounded h
  · exact h

theorem endEject_bounded (why : EjectOutcome) (h : s.NoticesBounded) : (endEject why s).NoticesBounded := by
  unfold endEject
  split
  · exact h
  · split
    · exact h.outcome _ _ _ _ _ rfl
    · exact h

theorem endClaim_bounded (why : ClaimOutcome) (h : s.NoticesBounded) : (endClaim why s).NoticesBounded := by
  unfold endClaim
  split
  · exact h
  · exact h.outcome _ _ _ _ _ rfl

theorem endOpen_bounded (why : OpenOutcome) (h : s.NoticesBounded) : (endOpen why s).NoticesBounded := by
  unfold endOpen
  split
  · exact h
  · exact h.outcome _ _ _ _ _ rfl

theorem grantOpen_bounded (h : s.NoticesBounded) : (grantOpen s).NoticesBounded := by
  unfold grantOpen
  split
  · exact h
  · exact State.NoticesBounded.setNotice (h.outcome _ _ _ _ _ rfl) .press _

theorem releasePress_bounded (h : s.NoticesBounded) : (releasePress s).NoticesBounded := by
  unfold releasePress
  split
  · split
    · exact State.NoticesBounded.setNotice (h.outcome _ _ _ _ _ rfl) .handler _
    · exact h.congr rfl
  · exact h

theorem engage_bounded (sh : Shot) (d : Demould) (h : s.NoticesBounded) : (engage sh d s).NoticesBounded := by
  unfold engage
  dsimp only
  split
  · exact State.NoticesBounded.setNotice (h.outcome _ _ _ _ _ rfl) .press _
  · exact h.congr rfl

theorem reclaim_bounded (h : s.NoticesBounded) : (reclaim s).NoticesBounded :=
  have ended : (endEject .reclaimed (handlerLetsGo s)).NoticesBounded := endEject_bounded _ (h.congr rfl)
  reexamine_bounded ((ended.congr (flagUntaken_ports ..)).setNotice _ _)

theorem endWindow_bounded (h : s.NoticesBounded) : (endWindow s).NoticesBounded := by
  unfold endWindow
  split
  · exact h
  · exact State.NoticesBounded.setNotice (State.NoticesBounded.setNotice (h.congr (flagUntaken_ports ..)) .press _) .handler _

/-! ### Aborts, the opening and the seal -/

theorem scrapShot_bounded (sh : Shot) (h : s.NoticesBounded) : (scrapShot sh s).NoticesBounded :=
  readyScraps_bounded _ (List.foldlRecOn _ _ h fun _ h _ _ => h.congr (scrapCavity_ports ..))

theorem returnCavity_bounded (k : Fin 4) (h : s.NoticesBounded) : (returnCavity k s).NoticesBounded := by
  unfold returnCavity
  split
  · exact h
  · exact returnStaged_bounded _ _ _ h

theorem abortAssembling_bounded (sh : Shot) (why : CloseOutcome) (h : s.NoticesBounded) :
    (abortAssembling sh why s).NoticesBounded := by
  have returned : (sh.stagedCavities.foldl (fun st k => returnCavity k st) (endClose why s)).NoticesBounded :=
    List.foldlRecOn _ _ (endClose_bounded why h) fun _ h k _ => returnCavity_bounded k h
  exact ((scrapShot_bounded sh returned).setNotice .handler (.shotAborted sh.number)).congr (by simp [abortAssembling])

theorem abortPress_bounded (sh : Shot) (h : s.NoticesBounded) : (abortPress sh s).NoticesBounded :=
  ((scrapShot_bounded sh h).setNotice .handler (.shotAborted sh.number)).congr rfl

theorem clearProduction_bounded (h : s.NoticesBounded) : (clearProduction s).NoticesBounded := by
  have closing (u : State) (hu : u.NoticesBounded) :
      (endClaim .productionReset (endClose .productionReset u)).NoticesBounded :=
    endClaim_bounded _ (endClose_bounded _ hu)
  have pressed (u : State) (hu : u.NoticesBounded) :
      (match s.pressToAbort with | none => u | some sh => abortPress sh u).NoticesBounded := by
    split
    · exact hu
    · exact abortPress_bounded _ hu
  unfold clearProduction
  cases s.shc.assembling with
  | none => exact closing _ (pressed s h)
  | some sh => exact closing _ (pressed _ (abortAssembling_bounded _ _ h))

theorem pressOpened_bounded (sh : Shot) (h : s.NoticesBounded) : (pressOpened sh s).NoticesBounded :=
  reexamine_bounded ((releasePress_bounded h).setNotice _ _)

theorem implicitAbort_bounded (sh : Shot) (h : s.NoticesBounded) : (implicitAbort sh s).NoticesBounded :=
  ((scrapShot_bounded sh h).setNotice .handler (.shotAborted sh.number)).congr (by simp [implicitAbort])

theorem openMould_bounded (sh : Shot) (early : Bool) (h : s.NoticesBounded) : (openMould sh early s).NoticesBounded :=
  (endOpen_bounded .opened h).congr (by simp [openMould])

theorem sealIfOut_bounded (h : s.NoticesBounded) : (sealIfOut s).NoticesBounded := by
  unfold sealIfOut
  split
  · rename_i sh r _ _
    split
    · have sealed : ((heldCavities sh.enabled).foldl (fun st x => sealPart r sh x.1 x.2 st) s).NoticesBounded :=
        List.foldlRecOn _ _ h fun _ h _ _ => h.congr (sealPart_ports ..)
      unfold sealShot
      exact State.NoticesBounded.setNotice ((endEject_bounded .sealed sealed).congr (by simp)) _ _
    · exact h
  · exact h

theorem removeFrom_bounded (n : Nat) (k : Fin 4) (c : Cavity) (h : s.NoticesBounded) : (removeFrom n k c s).NoticesBounded :=
  have scrapped : (scrapCavity .removedFromCavity n k c s).NoticesBounded := h.congr (scrapCavity_ports ..)
  reexamine_bounded ((readyScraps_bounded (sealSequences [(k, c)]) scrapped).congr rfl)

/-! ### The scales -/

theorem timeoutTare_bounded (k : Fin 2) (h : s.NoticesBounded) : (timeoutTare k s).NoticesBounded := by
  unfold timeoutTare
  split
  · exact State.NoticesBounded.setNotice (h.congr rfl) _ _
  · exact h

theorem timeoutCapture_bounded (k : Fin 2) (h : s.NoticesBounded) : (timeoutCapture k s).NoticesBounded := by
  unfold timeoutCapture
  split
  · exact h
  · split
    · exact State.NoticesBounded.setNotice (h.congr (endCapture_ports ..)) _ _
    · exact h

theorem settleCapture_bounded (k : Fin 2) (h : s.NoticesBounded) : (settleCapture k s).NoticesBounded := by
  unfold settleCapture
  dsimp only
  split
  · exact h
  · split
    · exact State.NoticesBounded.setNotice (h.congr (endCapture_ports ..)) _ _
    · exact State.NoticesBounded.setNotice (h.congr (by simp)) _ _

theorem deliver_bounded (k : Fin 2) (a : Arrival) (h : s.NoticesBounded) : (deliver k a s).NoticesBounded := by
  unfold deliver
  split
  · exact h.congr rfl
  · exact h.congr rfl
  · dsimp only
    split
    · exact State.NoticesBounded.setNotice (h.congr rfl) _ _
    · exact h.congr rfl
  · dsimp only
    split
    · exact settleCapture_bounded k (h.congr rfl)
    · exact h.congr rfl

theorem startLc_bounded (h : s.NoticesBounded) : (startLc s).NoticesBounded :=
  h.congr (startLc_ports s)

theorem arriveLc_bounded (channel : Nat) (st : LcResult) (count : Int) (h : s.NoticesBounded) :
    (arriveLc channel st count s).NoticesBounded := by
  unfold arriveLc
  split
  · exact h.congr (startLc_ports _)
  · split
    · exact startLc_bounded (deliver_bounded _ _ (h.congr rfl))
    · exact h.congr (startLc_ports _)

theorem expireConversion_bounded (link : Converter) (h : s.NoticesBounded) : (expireConversion link s).NoticesBounded := by
  unfold expireConversion
  split <;> split
  · exact h.congr (startTc_ports _)
  · exact h.congr (startTc_ports _)
  · exact h.congr (startLc_ports _)
  · exact startLc_bounded (deliver_bounded _ _ (h.congr rfl))

/-! ### The heat and the clock -/

theorem enterStandby_bounded (h : s.NoticesBounded) : (enterStandby s).NoticesBounded :=
  State.NoticesBounded.setNotice (h.congr rfl) _ _

theorem enterProduction_bounded (emptySince : Option Nat) (h : s.NoticesBounded) :
    (enterProduction emptySince s).NoticesBounded :=
  State.NoticesBounded.setNotice (h.congr rfl) _ _

theorem endStandbyWait_bounded (h : s.NoticesBounded) : (endStandbyWait s).NoticesBounded := by
  unfold endStandbyWait
  split
  · exact enterStandby_bounded h
  · exact h

theorem arm_bounded (slot : Fin 8) (r : Recipe) (mask : BitVec 8) (h : s.NoticesBounded) :
    (arm slot r mask s).NoticesBounded := by
  have issued : ∀ u : State, u.ports = s.ports → (heatForShot u).NoticesBounded := by
    intro u same
    unfold heatForShot
    split
    · exact enterProduction_bounded _ (h.congr same)
    · exact h.congr same
  exact issued _ (by simp)

theorem frameBoundary_bounded (h : s.NoticesBounded) : (frameBoundary s).NoticesBounded := by
  have figures : (loadBoundary s).NoticesBounded := h.congr rfl
  have faults : (faultNotices s.faultingZones (loadBoundary s)).NoticesBounded := by
    rw [faultNotices_eq]; exact figures.told _ _
  have loaded (u : State) (hu : u.NoticesBounded) : (throttleNotices u).NoticesBounded :=
    (hu.setNotice _ _).setNotice _ _
  unfold frameBoundary
  dsimp only
  split
  · refine reexamine_bounded ?_
    split
    · exact loaded _ faults
    · exact faults
  · split
    · exact loaded _ faults
    · exact faults

theorem pulse_bounded (h : s.NoticesBounded) : (pulse s).NoticesBounded := by
  unfold pulse
  split
  · exact frameBoundary_bounded (State.NoticesBounded.setNotice (h.congr rfl) _ _)
  · split
    · exact frameBoundary_bounded h
    · split
      · exact h.congr rfl
      · exact frameBoundary_bounded h

theorem loseMains_bounded (h : s.NoticesBounded) : (loseMains s).NoticesBounded := by
  unfold loseMains
  split
  · exact h
  · exact State.NoticesBounded.setNotice (h.congr rfl) _ _

theorem declareCure_bounded (h : s.NoticesBounded) : (declareCure s).NoticesBounded := by
  unfold declareCure
  split
  · exact h
  · exact State.NoticesBounded.setNotice (grantOpen_bounded (s := s.setPress _) (h.congr rfl)) _ _

theorem secondStep_bounded (h : s.NoticesBounded) : (secondStep s).NoticesBounded := by
  have timers := timeoutCapture_bounded 1 (timeoutCapture_bounded 0 (timeoutTare_bounded 1 (timeoutTare_bounded 0 h)))
  have finished := endStandbyWait_bounded (endWindow_bounded (examineDeadlines_bounded (expireCharges_bounded timers)))
  exact declareCure_bounded (finished.congr (by simp [finishSecond]))

/-! ### Every step keeps it -/

theorem endHeld_bounded (p : Port) (h : s.NoticesBounded) : (endHeld p s).NoticesBounded := by
  cases p with
  | press => exact endEject_bounded _ (endOpen_bounded _ (endClose_bounded _ h))
  | handler => exact endClaim_bounded _ h
  | charge => exact h
  | trace => exact h

/-- Every change sets its notices one by one. -/
theorem Change.noticesBounded (change : Change s t) (h : s.NoticesBounded) : t.NoticesBounded := by
  cases change with
  | reset => obtain ⟨-, -, bounded, -⟩ := resetMeetsEveryInvariant; exact bounded
  | second => exact secondStep_bounded h
  | lcArrived => exact arriveLc_bounded _ _ _ h
  | expired link => exact expireConversion_bounded link h
  | pulsed => exact pulse_bounded h
  | mainsLost => exact loseMains_bounded h
  | standby => exact enterStandby_bounded h
  | production since => exact enterProduction_bounded since h
  | tareEnded k => exact timeoutTare_bounded k h
  | captureEnded k => exact timeoutCapture_bounded k h
  | racked position k e => exact closeInto_bounded position k e h
  | sessionScrapped r => exact scrapNow_bounded r (h.congr (by simp))
  | redeclared k lot => exact makeCurrent_bounded k lot (h.congr rfl)
  | learned k lot => exact makeCurrent_bounded k lot (h.congr (by simp))
  | chargeExpired id => exact expireCharge_bounded id h
  | rackScrapped r => exact scrapNow_bounded r (h.congr rfl)
  | staged k r => exact stage_bounded k r h
  | returned k r q => exact returnStaged_bounded k r q h
  | armed slot r mask => exact arm_bounded slot r mask h
  | removed n k c => exact removeFrom_bounded n k c h
  | closeGranted => exact grantClose_bounded h
  | closeEnded why => exact endClose_bounded why h
  | examined => exact examineDeadlines_bounded h
  | openedClosing sh => exact pressOpened_bounded sh (implicitAbort_bounded sh h)
  | openedAborted sh => exact pressOpened_bounded sh (h.congr (freePress_ports s))
  | openedCure sh early => exact pressOpened_bounded sh (openMould_bounded sh early h)
  | assemblingAborted sh why => exact abortAssembling_bounded sh why h
  | pressAborted sh => exact abortPress_bounded sh h
  | cleared => exact clearProduction_bounded h
  | lockTaken => exact reexamine_bounded (h.congr rfl)
  | lockReleased => exact reexamine_bounded (h.congr rfl)
  | claimEnded why => exact endClaim_bounded why h
  | reclaimed => exact reclaim_bounded h
  | engaged sh d => exact engage_bounded sh d h
  | ejected => exact State.NoticesBounded.setNotice (h.congr rfl) _ _
  | partOut => exact sealIfOut_bounded (h.congr rfl)
  | stuck => exact State.NoticesBounded.setNotice (h.congr rfl) _ _
  | windowEnded => exact endWindow_bounded h
  | historySet => exact compareLow_bounded (h.congr rfl)
  | fetchHeld => exact h.outcome _ _ _ _ _ rfl
  | collected => exact compareLow_bounded (h.congr rfl)
  | noticesRead p n => exact h.modifyPort p ((List.drop_sublist n _).length_le.trans (h p))
  | portSet p => exact h.modifyPort p (h p)
  | portReset p => exact endHeld_bounded p (h.modifyPort p (Nat.zero_le _))
  | _ => exact h.congr (by simp)

/-- Settles O6: a notice joining a full set drives the oldest out, and nothing else lengthens a set. -/
theorem noticeSetsStayBounded : Obligations.NoticeSetsStayBounded :=
  fun _ _ => step_keeps (fun answered h => h.of_notices answered.2) (fun _ h => h) Change.noticesBounded

end Sys2Proof.Machine
end

section
/-! PROOFS. Transactions: what stands on every port before a request's owner decides it (R162 to R169, R173, R176, R180). -/

namespace Sys2Proof.Machine

/-! ### Every request is a transaction with its owner -/

/-- Every command's request is one transaction, whose owner the operands choose (10.3, R181). -/
theorem exec_instr (c : Command) (p : Port) (operands : List Byte) :
    ∃ owner, ∀ s, exec (c.instr p operands) s = .next (transact p c owner s) := by
  cases c <;> exact ⟨_, fun _ => rfl⟩

/-- A request permitted on its port, outside held fetch, is answered by its owner. -/
theorem exec_taken {i : Instr} {p : Port} {c : Command} {owner : State → State × Answer} {s : State}
    (arm : exec i s = .next (transact p c owner s)) (free : s.inHeldFetch p = false) (permitted : c.permitted p = true) :
    exec i s = .next (s.replied p (owner s).2 (owner s).1) := by
  rw [arm, transact_taken s owner free permitted]

/-- Settles O12: the port check comes before the owner. -/
theorem notPermittedChangesNothing : Obligations.NotPermittedChangesNothing := by
  intro c p operands s refused free
  obtain ⟨owner, arm⟩ := exec_instr c p operands
  rw [arm, transact_refused s owner free refused]

/-! ### Held fetch -/

theorem State.inHeldFetch_some {s : State} {start : Nat} (h : s.ports.heldFetch = some start) :
    s.inHeldFetch .trace = true := by
  simp [State.inHeldFetch, h]

/-- The entry a fetch returns for a sequence number is that of its slot, by the slot's state (R163, R184). -/
theorem State.fetchAnswer_finds (s : State) (start count : Nat) :
    s.FetchFinds start count (s.fetchAnswer start count) (s.fetchNext start count) := by
  refine ⟨fun gone => ?_, fun kept beyond => ?_, fun kept issued => ?_⟩
  · simp [State.fetchAnswer, State.fetchNext, gone, State.fetchHeader]
  · simp [State.fetchAnswer, State.fetchNext, kept.not_gt, beyond, State.fetchHeader]
  · refine ⟨s.fetchCount start (clampNat 1 8 count),
      (List.range (s.fetchCount start (clampNat 1 8 count))).map fun i => (s.hrg.slots.get (slotOf (start + i))).entry,
      by rw [clampNat_eq_nearest count (by decide)]; rfl, ?_, by simp, ?_, ?_⟩
    · simp [State.fetchNext, kept.not_gt, issued.not_gt]
    · simp [State.fetchAnswer, kept.not_gt, issued.not_gt, ← setupStatus_clampNat count (show 1 ≤ 8 by decide),
        State.fetchHeader, List.flatMap]
    · rintro i q within rfl
      simp only [List.getElem?_map, List.getElem?_range within, Option.map_some]
      exact ⟨fun h => by rw [h]; rfl, fun h => by rw [h]; rfl, fun r h => by rw [h]; rfl, fun r h => by rw [h]; rfl⟩

/-- A count taken in held fetch, in the words of the statements (R164). -/
theorem takeCount_held {s : State} {start : Nat} (h : s.ports.heldFetch = some start) (n : Nat) :
    takeCount n s =
      if n = 0 then s.replied .trace (.bare .ok) { s with ports := { s.ports with heldFetch := none } }
      else s.replied .trace (s.fetchAnswer start n)
        { s with ports := { s.ports with heldFetch := some (s.fetchNext start n) } } := by
  simp only [takeCount, h]
  rfl

/-- Settles O13: on the trace port in held fetch every arm gives its byte to the count. -/
theorem heldFetchTakesEveryByteAsACount : Obligations.HeldFetchTakesEveryByteAsACount := by
  intro s start h
  have held := State.inHeldFetch_some h
  refine ⟨s.fetchAnswer_finds start, fun c operands => ?_, fun b => ?_, fun b => ?_, ?_⟩
  · obtain ⟨owner, arm⟩ := exec_instr c .trace operands
    rw [arm, transact_counted s c owner held, takeCount_held h]
  · simp [exec, execUnknownCommand, unknown, held, takeCount_held h]
  · simp [exec, execHeldFetchCount, held, takeCount_held h]
  · simp [exec, execTransactionTruncated, truncated, held]

/-! ### The answers of the port level -/

/-- What a port reads back after a reply: that reply's frame (R167, R179). -/
theorem State.replied_readBack (s t : State) (p : Port) (a : Answer) (sent clocked : Nat) :
    ((s.replied p a t).ports.get p).readBack sent clocked =
      Reply.selectPeriod ⟨(s.ports.get p).turnaround, a.status, a.fields⟩ sent clocked := by
  rw [State.replied_get_self]; rfl

/-- Two owners of a request that its port may not ask make one transaction: neither is asked (R169). -/
theorem transact_owner_irrelevant {p : Port} {c : Command} (f g : State → State × Answer) (s : State)
    (refused : c.permitted p = false) : transact p c f s = transact p c g s := by
  simp [transact, refused]

/-- A command without operand bytes that comes as one byte on the trace port is the request it names (R164, R169). -/
theorem exec_oneByte (c : Command) (s : State) (bare : c.row.operandBytes = 0) :
    exec (c.instr .trace []) s = .next (transact .trace c (traceOwner c) s) := by
  by_cases permitted : c.permitted .trace = true
  · cases c <;> first | exact absurd permitted (by decide) | exact absurd bare (by decide) | rfl
  · obtain ⟨owner, arm⟩ := exec_instr c .trace []
    rw [arm, transact_owner_irrelevant owner (traceOwner c) s (by simpa using permitted)]

/-- Settles O14, clause by clause. -/
theorem portLevelAnswers : Obligations.PortLevelAnswers := by
  intro p s free
  refine ⟨fun a sent clocked i t => ?_, ?_, fun b => ?_, ?_, ?_⟩
  · intro n bytes
    have read : bytes = _ := s.replied_readBack t p a sent clocked
    refine ⟨by rw [read]; simp, fun within => ?_⟩
    have byte := Reply.selectPeriod_getElem? ⟨n, a.status, a.fields⟩ sent within
    simp only at byte
    rw [read]
    refine ⟨fun outside => ?_, fun atStatus => ?_, fun j atField inside => ?_⟩
    · rw [byte]
      rcases outside with before | beyond
      · simp [before, filler]
      · rw [if_neg (by omega), if_neg (by omega), List.getD_eq_default _ _ (by omega)]
        rfl
    · rw [byte, if_neg (by omega), if_pos atStatus]
    · rw [byte, if_neg (by omega), if_neg (by omega),
        show i - (sent + n + 1) = j by omega, List.getD_eq_getElem _ _ inside, List.getElem?_eq_getElem inside]
  · exact exec_taken (c := .noOperation) (owner := noOperation) rfl free (by cases p <;> rfl)
  · simp [exec, execUnknownCommand, unknown, free, answer_eq_replied]
  · simp [exec, execTransactionTruncated, truncated, free]
  · rintro rfl b
    have arm : exec (.heldFetchCount b) s = .next (oneByte b s) := by simp [exec, execHeldFetchCount, free]
    rw [arm, oneByte]
    cases named : Command.ofByte b with
    | none => rfl
    | some c =>
      by_cases bare : c.row.operandBytes = 0
      · simp [bare, exec_oneByte c s bare]
      · simp only [Nat.pos_of_ne_zero bare, bare, if_true, if_false]
        rfl

/-! ### Reading notices -/

/-- Settles O16. -/
theorem readNoticesTakesTheOldest : Obligations.ReadNoticesTakesTheOldest := by
  intro p count s free n q t
  have taken := exec_taken (i := .readNotices p count) (c := .readNotices) (owner := readNotices p count) rfl free
    (by cases p <;> rfl)
  have max : clampNat 1 32 count.toNat = n := clampNat_eq_nearest _ (by decide)
  have status : setupStatus (n ≠ count.toNat) = clampStatus 1 32 count.toNat :=
    max ▸ setupStatus_clampNat count.toNat (by decide)
  refine ⟨?_, ?_⟩
  · rw [taken]
    simp only [readNotices, max, status, noticesReply, List.length_take, List.length_drop]
    cases p <;> rfl
  · rw [State.attention, State.replied_get_self, State.modifyPort_get_self, Bool.eq_iff_iff]
    simp

/-! ### Ending what is held -/

/-- A held open, if any, ends without a notice (R116). -/
theorem endOpen_eq (why : OpenOutcome) (s : State) : endOpen why s = { s with
    shc := { s.shc with heldOpen := none }
    ports := { s.ports with openOutcome := if s.shc.heldOpen.isSome then some why else s.ports.openOutcome } } := by
  unfold endOpen
  split <;> rename_i h <;> rw [h] <;> simp only [Option.isSome, if_true, Bool.false_eq_true, if_false]
  rw [← h]

/-- A held eject, if any, ends without a notice (R143). -/
theorem endEject_eq (why : EjectOutcome) (s : State) : endEject why s = { s with
    dmi := { s.dmi with demould := s.dmi.demould.map fun d => { d with heldEject := false } }
    ports := { s.ports with
      ejectOutcome := if s.dmi.demould.any (fun d => d.heldEject) then some why else s.ports.ejectOutcome } } := by
  unfold endEject
  cases h : s.dmi.demould with
  | none =>
    simp only [Option.map_none, Option.any_none, Bool.false_eq_true, if_false]
    rw [← h]
  | some d =>
    by_cases held : d.heldEject = true
    · simp [held]
    · have same : { d with heldEject := false } = d := by cases d; simp_all
      simp only [held, Option.map_some, Option.any_some, same, Bool.false_eq_true, if_false]
      rw [← h]

/-- A pending claim, if any, ends without a notice (R137, R150). -/
theorem endClaim_eq (why : ClaimOutcome) (s : State) : endClaim why s = { s with
    dmi := { s.dmi with claim := none }
    ports := { s.ports with claimOutcome := if s.dmi.claim.isSome then some why else s.ports.claimOutcome } } := by
  unfold endClaim
  split <;> rename_i h <;> rw [h] <;> simp only [Option.isSome, if_true, Bool.false_eq_true, if_false]
  rw [← h]

/-- A held close, if any, ends with CLOSE_ENDED (R111). -/
theorem endClose_eq (why : CloseOutcome) (s : State) : endClose why s = { s with
    shc := { s.shc with heldClose := none }
    ports := { s.ports with
      press := (s.told .press (s.shc.heldClose.toList.map fun h => .closeEnded h.shot why)).ports.press
      closeOutcome := if s.shc.heldClose.isSome then some why else s.ports.closeOutcome } } := by
  cases h : s.shc.heldClose with
  | none =>
    rw [endClose_none why h]
    simp only [Option.toList, List.map_nil, State.told, List.foldl_nil, Option.isSome, Bool.false_eq_true, if_false]
    rw [← h]
  | some c => rw [endClose_some why h]; rfl

/-- Settles O18: a port's held requests end one after another on the port already cleared. -/
theorem portResetEndsHeldRequests : Obligations.PortResetEndsHeldRequests := by
  intro s
  refine ⟨fun p side free => ?_, ?_, ?_⟩
  · have taken := exec_taken (i := .portReset p) (c := .portReset) (owner := portReset p) rfl free (by cases p <;> rfl)
    rw [taken]
    rcases side with rfl | rfl <;> rfl
  · have taken := exec_taken (i := .portReset .handler) (c := .portReset) (owner := portReset .handler) rfl
      (s.inHeldFetch_of_ne (by decide)) rfl
    refine ⟨_, taken, ?_⟩
    simp only [portReset, endHeld, endClaim_eq]
    refine ⟨rfl, rfl, ?_, rfl, rfl, rfl, rfl⟩
    cases h : s.dmi.claim <;> simp [State.replied, State.modifyPort, Ports.modify, Ports.get, PortState.cleared,
      State.heldCount, h]
  · have taken := exec_taken (i := .portReset .press) (c := .portReset) (owner := portReset .press) rfl
      (s.inHeldFetch_of_ne (by decide)) rfl
    refine ⟨_, taken, ?_⟩
    simp only [portReset, endHeld, endEject_eq, endOpen_eq, endClose_eq]
    refine ⟨rfl, rfl, ?_, ?_, ?_, rfl, rfl, rfl, rfl, rfl, rfl, rfl, rfl⟩
    all_goals
      cases h : s.shc.heldClose <;> simp [State.replied, State.modifyPort, Ports.modify, Ports.get, PortState.cleared,
        State.told, setNotice, PortState.join, Config.noticeRoom, h]

end Sys2Proof.Machine
end

section
/-! PROOFS. Reading back what is written in bytes (R179 to R181, R186). -/

namespace Sys2Proof.Machine

/-! ### Numbers as bytes -/

@[simp] theorem be_length (k n : Nat) : (be k n).length = k := by simp [be]

/-- The last byte of a number is its remainder, the bytes before it its quotient (R179). -/
theorem be_succ (k n : Nat) : be (k + 1) n = be k (n / 256) ++ [BitVec.ofNat 8 n] := by
  have quotient : ∀ i, n / 256 ^ (i + 1) = n / 256 / 256 ^ i := fun i => by rw [Nat.pow_succ', Nat.div_div_eq_div_mul]
  simp [be, List.range_succ_eq_map, Function.comp_def, quotient]

theorem beValue_append_singleton (bytes : List Byte) (b : Byte) : beValue (bytes ++ [b]) = beValue bytes * 256 + b.toNat := by
  simp [beValue]

/-- The bytes of a number read back as its low bytes (R179). -/
theorem beValue_be (k n : Nat) : beValue (be k n) = n % 256 ^ k := by
  induction k generalizing n with
  | zero => simp [be, beValue, Nat.mod_one]
  | succ k ih =>
    rw [be_succ, beValue_append_singleton, ih, Nat.pow_succ', Nat.mod_mul]
    simp
    omega

/-! ### Fields -/

@[simp] theorem beBits_length {w : Nat} (x : BitVec w) : (beBits x).length = w / 8 := by simp [beBits]

/-- A field reads back as the bit vector written there, if that is whole bytes wide (R179). -/
theorem field_beBits {w : Nat} (x : BitVec w) (whole : 8 * (w / 8) = w) : field w (beBits x) 0 = x := by
  have power : 256 ^ (w / 8) = 2 ^ w := by
    rw [show 256 = 2 ^ 8 by rfl, ← pow_mul, whole]
  have all : (beBits x).take (w / 8) = beBits x := List.take_of_length_le (by simp)
  rw [field, List.drop_zero, all, beBits, beValue_be, power, Nat.mod_eq_of_lt x.isLt]
  simp

/-- A field lies within the bytes it fits in (R179). -/
theorem field_within {w off : Nat} {bytes : List Byte} (rest : List Byte) (h : off + w / 8 ≤ bytes.length) :
    field w (bytes ++ rest) off = field w bytes off := by
  have inside : w / 8 ≤ bytes.length - off := by omega
  rw [field, field, List.drop_append_of_le_length (by omega), List.take_append_of_le_length (by simpa using inside)]

/-- A field beyond some bytes is read from the rest (R179). -/
theorem field_beyond {w off : Nat} {bytes : List Byte} (rest : List Byte) (h : bytes.length ≤ off) :
    field w (bytes ++ rest) off = field w rest (off - bytes.length) := by
  rw [field, field, List.drop_append, List.drop_eq_nil_of_le h, List.nil_append]

/-- The first field of several reads back (R179). -/
theorem field_here {w : Nat} (x : BitVec w) (rest : List Byte) (whole : 8 * (w / 8) = w) :
    field w (beBits x ++ rest) 0 = x := by
  rw [field_within _ (by simp), field_beBits x whole]

/-- A field after a first one is read from what follows that (R179). -/
theorem field_next {w v off : Nat} (x : BitVec v) (rest : List Byte) (h : v / 8 ≤ off) :
    field w (beBits x ++ rest) off = field w rest (off - v / 8) := by
  rw [field_beyond _ (by simpa using h), beBits_length]

/-! ### Tables in bytes -/

/-- Items of one length, one after another, take that many bytes each. -/
theorem flatMap_length {α : Type} {f : α → List Byte} {m : Nat} (len : ∀ x, (f x).length = m) (l : List α) :
    (l.flatMap f).length = m * l.length := by
  simp [List.length_flatMap, len, Nat.mul_comm]

/-- A field of one item among items of one length is a field of that item. -/
theorem field_flatMap {α : Type} {f : α → List Byte} {m w o off k : Nat} (len : ∀ x, (f x).length = m) (l : List α)
    (rest : List Byte) (h : k < l.length) (at_ : off = m * k + o) (fits : o + w / 8 ≤ m) :
    field w (l.flatMap f ++ rest) off = field w (f l[k]) o := by
  subst at_
  induction l generalizing k with
  | nil => simp at h
  | cons x xs ih =>
    rw [List.flatMap_cons, List.append_assoc]
    cases k with
    | zero => simpa using field_within _ (by simpa [len] using fits)
    | succ k =>
      rw [field_beyond _ (by rw [len]; nlinarith), len, show m * (k + 1) + o - m = m * k + o by rw [Nat.mul_succ]; omega]
      exact ih (Nat.lt_of_succ_lt_succ h)

/-- A field of a table's entry is a field of that entry's bytes. -/
theorem field_table {α : Type} {n : Nat} {f : α → List Byte} {m w o off : Nat} (len : ∀ x, (f x).length = m) (t : Table α n)
    (rest : List Byte) (k : Fin n) (at_ : off = m * k.val + o) (fits : o + w / 8 ≤ m) :
    field w (t.toList.flatMap f ++ rest) off = field w (f (t.get k)) o :=
  field_flatMap len t.toList rest (by rw [t.size_eq]; exact k.isLt) at_ fits

/-- A field after a table is read from what follows that. -/
theorem field_after_table {α : Type} {n : Nat} {f : α → List Byte} {m w off : Nat} (len : ∀ x, (f x).length = m)
    (t : Table α n) (rest : List Byte) (h : m * n ≤ off) :
    field w (t.toList.flatMap f ++ rest) off = field w rest (off - m * n) := by
  have size : (t.toList.flatMap f).length = m * n := by rw [flatMap_length len, t.size_eq]
  rw [field_beyond _ (by rwa [size]), size]

/-! ### Requests -/

/-- A command byte names its command (R181). -/
theorem Command.ofByte_byte (c : Command) : Command.ofByte (BitVec.ofNat 8 c.row.byte) = some c := by
  cases c <;> rfl

/-- The bytes of a request, with operands enough, are read as the request of its command (R167, R180). -/
theorem parse_spelled (p : Port) (c : Command) {operands : List Byte} (enough : c.row.operandBytes ≤ operands.length) :
    parseTransaction false p (c.spelled operands) = some (c.instr p operands) := by
  simp [parseTransaction, Command.spelled, Command.ofByte_byte, enough.not_gt]

/-- The 114 bytes of a recipe body read back as that body (R186). -/
theorem recipeBodyOf_bytes (slot : BitVec 8) (r : RecipeBody) : recipeBodyOf (beBits slot ++ r.bytes) 1 = r := by
  have byte : ∀ x : BitVec 8, (beBits x).length = 1 := fun _ => by simp
  have word : ∀ x : BitVec 16, (beBits x).length = 2 := fun _ => by simp
  have group : ∀ g : GroupOperand, (beBits g.target ++ (beBits g.lowTol ++ beBits g.highTol)).length = 6 := fun _ => by simp
  have rate : ∀ b : BreakpointOperand, (beBits b.temp ++ beBits b.rate).length = 4 := fun _ => by simp
  cases r
  simp only [recipeBodyOf, RecipeBody.bytes, List.append_assoc, RecipeBody.mk.injEq]
  simp (disch := omega) only [field_next, field_after_table byte, field_after_table word, field_after_table group,
    field_after_table rate]
  refine ⟨field_here _ _ rfl, field_here _ _ rfl, field_here _ _ rfl, Table.ext_get fun k => ?_, Table.ext_get fun k => ?_,
    Table.ext_get fun g => ?_, Table.ext_get fun z => ?_, field_here _ _ rfl, field_here _ _ rfl, Table.ext_get fun i => ?_,
    field_here _ _ rfl, field_here _ _ rfl, field_here _ _ rfl, field_here _ _ rfl, field_here _ _ rfl, field_beBits _ rfl⟩
  · rw [Table.get_ofFn, field_table byte _ _ k (o := 0) (by omega) (by omega), field_beBits _ rfl]
  · rw [Table.get_ofFn, field_table word _ _ k (o := 0) (by omega) (by omega), field_beBits _ rfl]
  · rw [Table.get_ofFn, field_table group _ _ g (o := 0) (by omega) (by omega),
      field_table group _ _ g (o := 2) (by omega) (by omega), field_table group _ _ g (o := 4) (by omega) (by omega),
      field_here _ _ rfl, field_next _ _ (by omega), field_here _ _ rfl, field_next _ _ (by omega),
      field_next _ _ (by omega), field_beBits _ rfl]
  · rw [Table.get_ofFn, field_table word _ _ z (o := 0) (by omega) (by omega), field_beBits _ rfl]
  · rw [Table.get_ofFn, field_table rate _ _ i (o := 0) (by omega) (by omega),
      field_table rate _ _ i (o := 2) (by omega) (by omega), field_here _ _ rfl, field_next _ _ (by omega),
      field_beBits _ rfl]

theorem RecipeBody.bytes_length (r : RecipeBody) : r.bytes.length = 114 := by
  simp [RecipeBody.bytes, List.length_flatMap, r.groupOf.size_eq, r.maskOf.size_eq, r.groups.size_eq, r.setpoints.size_eq,
    r.rates.size_eq]

/-- A byte that names no command is none of the 63 command bytes (R181). -/
theorem Command.ofByte_none {b : Byte} (h : 62 < b.toNat) : Command.ofByte b = none :=
  List.getElem?_eq_none h

/-- Settles O11: a request's operands, written one after another, are read at the offsets they were written at. -/
theorem transactionsReadBack : Obligations.TransactionsReadBack := by
  intro i p bytes wellFormed spelt
  cases i <;> simp only [Instr.spell, Option.some.injEq, Prod.mk.injEq, reduceCtorEq] at spelt
  all_goals obtain ⟨rfl, rfl⟩ := spelt
  case unknownCommand p b =>
    have above : 62 < b.toNat := by simpa [Instr.wellFormed] using wellFormed
    simp [parseTransaction, Command.ofByte_none above]
  case writeRecipe p slot body =>
    rw [parse_spelled _ _ (by simp [Command.row, RecipeBody.bytes_length])]
    simp only [Command.instr, recipeBodyOf_bytes, field_here slot _ rfl]
  all_goals
    rw [parse_spelled _ _ (by simp [Command.row])]
    simp (disch := omega) only [Command.instr, List.append_assoc, field_next, field_here, field_beBits, Nat.reduceDiv,
      Nat.reduceSub]

end Sys2Proof.Machine
end

section
/-! PROOFS. The reading requests: how long their replies are, field by field of their layouts (R182 to R189). -/

namespace Sys2Proof.Machine

/-! ### Lengths of the layouts -/

@[simp] theorem beInt_length (k : Nat) (i : Int) : (beInt k i).length = k := by simp [beInt]
@[simp] theorem beOpt_length (k : Nat) (o : Option Nat) : (beOpt k o).length = k := by simp [beOpt]
@[simp] theorem beOptInt_length (k : Nat) (o : Option Int) : (beOptInt k o).length = k := by simp [beOptInt]
@[simp] theorem bits_length (bs : List Bool) : (bits bs).length = 1 := by simp [bits]
@[simp] theorem mark_length (b : Bool) : (mark b).length = 1 := by simp [mark]
@[simp] theorem flagBits_length (f : CavityFlags) (a b c : Bool) : (flagBits f a b c).length = 2 := by simp [flagBits]
@[simp] theorem beList_length (items : List (List Byte)) :
    (beList items).length = 1 + (items.map List.length).sum := by simp [beList]

/-- A list of items of one length: a count byte and the items (R180). -/
theorem beList_map_length {α : Type} {f : α → List Byte} {m : Nat} (len : ∀ x, (f x).length = m) (l : List α) :
    (beList (l.map f)).length = 1 + m * l.length := by
  rw [beList, List.length_append, be_length, ← List.flatMap_def, flatMap_length len]

theorem flatMap_table_length {α : Type} {f : α → List Byte} {n m : Nat} (t : Table α n)
    (len : ∀ x, (f x).length = m) : (t.toList.flatMap f).length = m * n := by
  rw [flatMap_length len, t.size_eq]

theorem FaultCause.seen_length (c : FaultCause) : c.seen.length = 2 := by
  cases c <;> simp [FaultCause.seen]

theorem State.zoneEntry_length (s : State) (z : Fin 12) : (s.zoneEntry z).length = 32 := by
  unfold State.zoneEntry
  dsimp only
  split <;> simp only [List.length_append, be_length, bits_length, beInt_length, beOpt_length, FaultCause.seen_length]

theorem State.cellEntry_length (s : State) (k : Fin 2) : (s.cellEntry k).length = 10 := by
  unfold State.cellEntry
  simp

theorem State.zonesReply_length (s : State) : s.zonesReply.length = 404 := by
  simp [State.zonesReply, flatMap_length s.zoneEntry_length, flatMap_length s.cellEntry_length]

theorem State.statusReply_length (s : State) (p : Port) : (s.statusReply p).length = 45 := by
  unfold State.statusReply
  dsimp only
  simp only [List.length_append, be_length, bits_length, beOpt_length]

theorem Recipe.bytes_length (r : Recipe) : r.bytes.length = 114 := by
  have group : ∀ g : GroupSpec, (be 2 g.target ++ be 2 g.lowTol ++ be 2 g.highTol).length = 6 := fun _ => by simp
  have rate : ∀ b : Breakpoint, (beInt 2 b.temp ++ be 2 b.rate).length = 4 := fun _ => by simp
  have one : ∀ c : RecipeCavity, (be 1 c.group).length = 1 := fun _ => by simp
  have two : ∀ c : RecipeCavity, (be 2 c.mask.toNat).length = 2 := fun _ => by simp
  simp only [Recipe.bytes, List.length_append, be_length, flatMap_table_length _ group, flatMap_table_length _ rate,
    flatMap_table_length r.setpoints (be_length 2), flatMap_table_length _ one, flatMap_table_length _ two]

theorem State.recipeReply_length (s : State) (i : Fin 8) : (s.recipeReply i).length = 117 := by
  unfold State.recipeReply
  split <;> simp [Recipe.bytes_length]

theorem Ply.bytes_length (p : Ply) : p.bytes.length = 6 := by simp [Ply.bytes]

theorem SessionPly.bytes_length (p : SessionPly) : p.bytes.length = 10 := by simp [SessionPly.bytes, Ply.bytes_length]

theorem Scale.reply_length (k : Scale) (now : Nat) :
    (k.reply now).length = 56 + 10 * ((k.session.map Session.plies).getD []).length := by
  have window : (if k.showsWindow then be 1 k.window.length ++ be 1 k.steadyRun ++ be 2 (k.secondsToDeadline now)
      else be 4 0).length = 4 := by split <;> simp
  unfold Scale.reply
  dsimp only
  simp only [List.length_append, be_length, bits_length, beInt_length, beOpt_length, mark_length, window,
    beList_map_length SessionPly.bytes_length]
  omega

theorem State.lotEntry_length (s : State) (l : Lot) : (s.lotEntry l).length = 24 := by
  simp [State.lotEntry]

theorem State.lotsReply_length (s : State) : s.lotsReply.length = 3 + 24 * s.ltr.lots.length := by
  simp [State.lotsReply, flatMap_length s.lotEntry_length]
  omega

theorem RackState.staging_length (r : RackState) : r.staging.length = 6 := by
  cases r <;> simp [RackState.staging]

theorem State.rackEntry_length (s : State) (r : RackRecord) : (s.rackEntry r).length = 29 + 6 * r.charge.plies.length := by
  simp only [State.rackEntry, RackState.staging_length, plyList, List.length_append, be_length, bits_length,
    beList_map_length Ply.bytes_length]
  omega

theorem State.queueReply_length (s : State) :
    s.queueReply.length = 1 + (s.ltr.rack.map fun r => 29 + 6 * r.charge.plies.length).sum := by
  simp [State.queueReply, Function.comp_def, State.rackEntry_length]

theorem Cavity.shotEntry_length (k : Fin 4) (c : Cavity) (d : Option Nat) : (c.shotEntry k d).length = 26 := by
  simp [Cavity.shotEntry]

theorem Shot.entry_length (sh : Shot) : sh.entry.length = 37 + 26 * sh.enabled.length := by
  have cavity : ∀ x : Fin 4 × Cavity, (x.2.shotEntry x.1 x.2.outDeadline).length = 26 := fun _ => Cavity.shotEntry_length ..
  unfold Shot.entry
  dsimp only
  simp only [List.length_append, be_length, bits_length, beOpt_length, beList_map_length cavity]
  omega

theorem State.heldRequests_length (s : State) : s.heldRequests.length = 17 := by
  unfold State.heldRequests
  split <;> simp [State.holdFields]

/-- The shots in order of number are those of the table (R121). -/
theorem State.shotsInOrder_perm (s : State) : s.shotsInOrder.Perm (s.shc.assembling.toList ++ s.shc.press.toList) := by
  unfold State.shotsInOrder
  split <;> rename_i press assembling <;> rw [press, assembling]
  · exact .refl _
  · exact .refl _
  · exact .refl _
  · split
    · exact .swap ..
    · exact .refl _

theorem State.shotsReply_length (s : State) : s.shotsReply.length =
    18 + ((s.shc.assembling.toList ++ s.shc.press.toList).map fun sh => 37 + 26 * sh.enabled.length).sum := by
  have same := (s.shotsInOrder_perm.map fun sh => 37 + 26 * sh.enabled.length).sum_eq
  simp [State.shotsReply, State.heldRequests_length, Function.comp_def, Shot.entry_length] at same ⊢
  omega

theorem Cure.entry_length (k : Fin 4) (st : CavityState) (c : Cure) : (c.entry k st).length = 24 := by
  simp [Cure.entry]

/-- The cavities that hold cure fields, counted (R123). -/
theorem Shot.curing_length (sh : Shot) : sh.curing.length = (sh.enabled.filter fun x => x.2.cure.isSome).length := by
  rw [Shot.curing, List.length_filterMap_eq_countP, List.countP_eq_length_filter]
  simp

/-- The READ CURE reply of a press-side shot is a 0 without cure fields, and its header and entries with them (R133, R188). -/
theorem State.cureReply_shot {s : State} {sh : Shot} {r : Recipe} (press : s.shc.press = some sh)
    (recipe : s.recipe = some r) :
    (sh.curing.length = 0 → s.cureReply = be 1 0) ∧
      (0 < sh.curing.length → s.cureReply.length = 16 + 24 * sh.curing.length) := by
  simp only [State.cureReply, press, recipe]
  refine ⟨fun none => ?_, fun some => ?_⟩
  · rw [if_pos (List.isEmpty_iff.mpr (List.length_eq_zero_iff.mp none))]
  · rw [if_neg (by simpa [List.length_pos_iff] using some)]
    simp [flatMap_length fun x => Cure.entry_length _ _ _]
    omega

theorem Demould.cavityEntry_length (d : Demould) (k : Fin 4) (c : Cavity) : (d.cavityEntry k c).length = 16 := by
  simp [Demould.cavityEntry]

theorem State.demouldReply_length (s : State) :
    s.demouldReply.length = 25 + 16 * (match s.opening with | some x => x.1.enabled.length | none => 0) := by
  unfold State.demouldReply State.opening
  cases s.dmi.demould <;> cases s.pressIn .opened <;> simp [Function.comp_def, Demould.cavityEntry_length]
  omega

/-- Settles O15: each request's owner answers its reply and hands the state on. -/
theorem readingRequestsChangeNothing : Obligations.ReadingRequestsChangeNothing := by
  intro s
  have free : ∀ {p : Port}, p ≠ .trace → s.inHeldFetch p = false := s.inHeldFetch_of_ne
  refine ⟨fun p open_ => ?_, ?_, fun slot within => ?_, fun slot beyond => ?_, fun k => ?_, fun scale beyond => ?_,
    fun p may open_ => ?_, fun p may => ?_, fun p may => ?_, fun p may open_ => ?_, fun p may => ?_⟩
  · exact ⟨_, s.statusReply_length p, exec_taken (c := .status) (owner := status p) rfl open_ (by cases p <;> rfl)⟩
  · exact ⟨_, s.zonesReply_length, exec_taken (owner := readZones) rfl (free (by decide)) rfl⟩
  · have taken := exec_taken (i := .readRecipe .press slot) (owner := readRecipe slot) rfl (free (by decide)) rfl
    have inside : inRange 8 slot = some ⟨slot.toNat, within⟩ := dif_pos within
    rw [readRecipe, inside] at taken
    exact ⟨_, s.recipeReply_length _, taken⟩
  · have taken := exec_taken (i := .readRecipe .press slot) (owner := readRecipe slot) rfl (free (by decide)) rfl
    rwa [readRecipe, inRange_none slot beyond] at taken
  · have taken := exec_taken (i := .scaleStatus .charge (BitVec.ofNat 8 k.val)) (owner := onScale _ scaleStatus) rfl
      (free (by decide)) rfl
    rw [onScale, inRange_ofNat k (by decide)] at taken
    exact ⟨_, (s.scales.get k).reply_length s.clock, taken⟩
  · have taken := exec_taken (i := .scaleStatus .charge scale) (owner := onScale _ scaleStatus) rfl (free (by decide)) rfl
    rwa [onScale, inRange_none scale beyond] at taken
  · exact ⟨_, s.lotsReply_length, exec_taken (c := .readLots) (owner := readLots) rfl open_
      (by rcases may with rfl | rfl <;> rfl)⟩
  · exact ⟨_, s.queueReply_length, exec_taken (c := .readQueue) (owner := readQueue) rfl
      (by rcases may with rfl | rfl <;> rfl) (by rcases may with rfl | rfl <;> rfl)⟩
  · exact ⟨_, s.shotsReply_length, exec_taken (c := .readShots) (owner := readShots) rfl
      (by rcases may with rfl | rfl <;> rfl) (by rcases may with rfl | rfl <;> rfl)⟩
  · refine ⟨s.cureReply, fun none => by simp [State.cureReply, none], fun sh r press recipe => ?_,
      exec_taken (c := .readCure) (owner := readCure) rfl open_ (by rcases may with rfl | rfl <;> rfl)⟩
    have reply := State.cureReply_shot press recipe
    rwa [sh.curing_length] at reply
  · exact ⟨_, s.demouldReply_length, exec_taken (c := .readDemould) (owner := readDemould) rfl
      (by rcases may with rfl | rfl <;> rfl) (by rcases may with rfl | rfl <;> rfl)⟩

end Sys2Proof.Machine
end

section
/-! PROOFS. Samples: results, expiries and unusable replies of the two converters (R3 to R8), and what a sample does to a scale
(R57 to R62, R66 to R72). -/

namespace Sys2Proof.Machine

theorem Table.set_set {α : Type} {n : Nat} (t : Table α n) (i : Fin n) (a b : α) : (t.set i a).set i b = t.set i b := by
  simp [Table.set]

variable {s : State} {c : Conversion}

/-! ### The conversion cycle -/

theorem State.tcOutstanding_some {z : Fin 12} (conv : s.msq.tcConv = some c) (turn : c.channel = z.val) :
    s.tcOutstanding = some z := by
  simp [State.tcOutstanding, conv, turn]

theorem State.lcOutstanding_some {k : Fin 2} (conv : s.msq.lcConv = some c) (turn : c.channel = k.val) :
    s.lcOutstanding = some k := by
  simp only [State.lcOutstanding, conv, Option.bind_some, turn, k.isLt, dif_pos]

/-- The scan wraps round after its last channel (R3, R4). -/
theorem nextChannel_eq_mod {n ch : Nat} (h : ch < n) : nextChannel n ch = (ch + 1) % n := by
  unfold nextChannel
  split
  · exact (Nat.mod_eq_of_lt ‹_›).symm
  · rw [show ch + 1 = n by omega, Nat.mod_self]

/-- The load-cell converter takes its two channels in turn (R4). -/
theorem nextChannel_two {ch : Nat} (h : ch < 2) : nextChannel 2 ch = 1 - ch := by
  unfold nextChannel
  split <;> omega

/-- The thermocouple converter's next conversion (R3). -/
theorem startTc_eq (conv : s.msq.tcConv = some c) (inside : c.channel < 12) :
    startTc s = { s with msq := { s.msq with tcConv := some ⟨(c.channel + 1) % 12, s.clock⟩ } } := by
  simp only [startTc, conv, nextChannel_eq_mod inside]

/-- The load-cell converter's next conversion (R4). -/
theorem startLc_eq (conv : s.msq.lcConv = some c) (inside : c.channel < 2) :
    startLc s = { s with msq := { s.msq with lcConv := some ⟨1 - c.channel, s.clock⟩ } } := by
  simp only [startLc, conv, nextChannel_two inside]

theorem channel_toNat {n : Nat} (k : Fin n) (h : n ≤ 256) : (BitVec.ofNat 8 k.val).toNat = k.val := by
  simpa using Nat.mod_eq_of_lt (show k.val < 256 by omega)

/-- Settles O20: the result is for the outstanding channel, so its record takes it. -/
theorem thermocoupleResultIsTaken : Obligations.ThermocoupleResultIsTaken := by
  intro z st value s c conv turn r
  have arrived : arriveTc (BitVec.ofNat 8 z.val).toNat st value.toInt s =
      startTc (s.modifyTc z fun r => r.take s.clock value.toInt st) := by
    simp only [arriveTc, State.tcOutstanding_some conv turn, channel_toNat z (by decide), if_true]
  have started := startTc_eq (s := s.modifyTc z fun r => r.take s.clock value.toInt st) (c := c) conv (by omega)
  rw [turn] at started
  simp only [exec, execThermocoupleResult, arrived, started]
  cases st <;> rfl

/-! ### A sample at a scale -/

/-- A scale that settles a tare keeps its live reading, and the other scale is not touched (R62). -/
theorem settleTare_scales (k : Fin 2) (s : State) : (settleTare k s).scales =
    s.scales.set k { (s.scales.get k).leaveTaring with zero := (s.scales.get k).newZero, tareTime := some s.clock } := rfl

/-- A scale that leaves CAPTURING is OPEN with the session given (R68, R71). -/
theorem endCapture_scales (k : Fin 2) (e : Session) (s : State) :
    (endCapture k e s).scales = s.scales.set k ((s.scales.get k).leaveCapturing e) := by
  simp [endCapture]
  rfl

/-- A capture that settles leaves its scale as it was, or OPEN with some session (R68). -/
theorem settleCapture_scales (k : Fin 2) (s : State) :
    (settleCapture k s).scales = s.scales ∨
      ∃ e, (settleCapture k s).scales = s.scales.set k ((s.scales.get k).leaveCapturing e) := by
  unfold settleCapture
  dsimp only
  split
  · exact .inl rfl
  · split
    · exact .inr ⟨_, endCapture_scales k _ s⟩
    · rename_i e _ _
      have same : (issueCharge e (raiseRef (e.armedLot.getD 0) s)).2.scales = s.scales := by simp
      exact .inr ⟨_, (endCapture_scales k _ _).trans (by rw [same])⟩

@[simp] theorem withReference_live (x : Scale) (a : Arrival) : (x.withReference a).live = x.live := by
  unfold Scale.withReference; split <;> rfl

/-- A sample leaves the other scale alone, and its own scale shows it (R57). -/
theorem deliver_scales (k : Fin 2) (a : Arrival) (s : State) :
    ∃ x, (deliver k a s).scales = s.scales.set k x ∧ x.live = ((s.scales.get k).observe a).live := by
  unfold deliver
  split
  · exact ⟨_, rfl, rfl⟩
  · exact ⟨_, rfl, rfl⟩
  · dsimp only
    split
    · refine ⟨_, by rw [settleTare_scales, State.modifyScale, Table.modify, Table.set_set], ?_⟩
      simp [Scale.leaveTaring, Scale.joinWindow]
    · exact ⟨_, rfl, withReference_live ..⟩
  · dsimp only
    split
    · generalize joined : (s.modifyScale k fun x => (x.observe a).joinWindow (x.captureEntry a)) = t
      have scales : t.scales = s.scales.set k
          (((s.scales.get k).observe a).joinWindow ((s.scales.get k).captureEntry a)) := by rw [← joined]; rfl
      rcases settleCapture_scales k t with same | ⟨e, opened⟩
      · exact ⟨_, same.trans scales, rfl⟩
      · refine ⟨(((s.scales.get k).observe a).joinWindow ((s.scales.get k).captureEntry a)).leaveCapturing e, ?_, rfl⟩
        rw [opened, scales, Table.set_set, Table.get_set_self]
    · exact ⟨_, rfl, rfl⟩

/-- In IDLE and OPEN a sample changes the live reading alone (R57). -/
theorem deliver_quiet {k : Fin 2} (a : Arrival) (quiet : (s.scales.get k).state = .idle ∨ (s.scales.get k).state = .opened) :
    deliver k a s = { s with scales := s.scales.set k ((s.scales.get k).observe a) } := by
  unfold deliver
  rcases quiet with h | h <;> rw [h] <;> rfl

/-- In TARING and CAPTURING a sample without an OK status joins the window as an unusable entry (R59, R60). -/
theorem deliver_busy {k : Fin 2} {a : Arrival}
    (busy : (s.scales.get k).state = .taring ∨ (s.scales.get k).state = .capturing) (bad : ∀ r, a ≠ .ok r) :
    let x := s.scales.get k
    let entry : Sample := ⟨a.raw, if x.state = .taring then none else some ((x.reading a).1 : Int), false⟩
    deliver k a s = { s with scales := s.scales.set k { x.observe a with
      window := if x.window.length < 8 then x.window ++ [entry] else x.window.tail ++ [entry], steadyRun := 0 } } := by
  intro x entry
  rw [deliver_unusable k a s busy bad]
  by_cases taring : (s.scales.get k).state = .taring
  · simp only [entry, x, taring, if_true]; rfl
  · simp only [entry, x, taring, if_false]; rfl

/-- A load-cell result for the outstanding channel (R6). -/
theorem arriveLc_taken {k : Fin 2} (conv : s.msq.lcConv = some c) (turn : c.channel = k.val) (st : LcResult) (count : Int) :
    arriveLc k.val st count s = startLc (deliver k (sampleOf count st) (s.modifyLc k fun r => r.take s.clock count st)) := by
  simp only [arriveLc, State.lcOutstanding_some conv turn, if_true]

/-- The load-cell converter's next conversion, after a sample has been delivered (R4, R6). -/
theorem startLc_delivered {k : Fin 2} (conv : s.msq.lcConv = some c) (turn : c.channel = k.val) (a : Arrival)
    (f : LcChannel → LcChannel) : startLc (deliver k a (s.modifyLc k f)) = { deliver k a (s.modifyLc k f) with
      msq := { s.msq with lc := s.msq.lc.set k (f (s.msq.lc.get k)), lcConv := some ⟨1 - k.val, s.clock⟩ } } := by
  rw [startLc_eq (c := c) ((congrArg Msq.lcConv (deliver_msq (s := s.modifyLc k f) k a)).trans conv) (by omega), turn]
  congr 1
  rw [deliver_msq, deliver_clock]
  rfl

/-- The live reading of a sample, written out (R57). -/
theorem Scale.observe_sampleOf (x : Scale) (count : Int) (st : LcResult) :
    (x.observe (sampleOf count st)).live =
      let w := weightOf (count - x.zero) x.gain
      match st with
      | .overrange => ⟨count, 65535, .overload⟩
      | .ok => if 65535 < w then ⟨count, 65535, .overload⟩ else if w < 0 then ⟨count, 0, .under⟩ else ⟨count, w.toNat, .ok⟩ := by
  cases st with
  | overrange => rfl
  | ok =>
    simp only [sampleOf, Scale.observe, Scale.reading, weighed, Arrival.raw, Option.getD_some]
    split_ifs <;> rfl

/-- Settles O21. -/
theorem loadCellResultIsTaken : Obligations.LoadCellResultIsTaken := by
  intro k st count s c conv turn x d w live msq
  have arm : exec (.loadCellResult (BitVec.ofNat 8 k.val) st count) s = .next
      { deliver k (sampleOf count.toInt st) (s.modifyLc k fun r => r.take s.clock count.toInt st) with msq := msq } := by
    simp only [exec, execLoadCellResult, channel_toNat k (by decide), arriveLc_taken conv turn, startLc_delivered conv turn]
    cases st <;> rfl
  have shown : (x.observe (sampleOf count.toInt st)).live = live := x.observe_sampleOf count.toInt st
  have observed : x.observe (sampleOf count.toInt st) = { x with live := live } := by rw [← shown]; rfl
  rw [arm]
  refine ⟨?_, fun quiet => ?_, fun busy high => ?_⟩
  · obtain ⟨y, scales, liveY⟩ := deliver_scales k (sampleOf count.toInt st) (s.modifyLc k fun r => r.take s.clock count.toInt st)
    refine ⟨_, rfl, rfl, ?_, fun j other => ?_⟩
    · simp only [scales, Table.get_set_self, liveY]
      exact shown
    · simp only [scales, Table.get_set_ne _ _ other]
      rfl
  · rw [deliver_quiet (s := s.modifyLc k fun r => r.take s.clock count.toInt st) _ quiet]
    exact congrArg (fun y => Host.Outcome.next { s with msq := msq, scales := s.scales.set k y }) observed
  · subst high
    intro entry window
    rw [deliver_busy (s := s.modifyLc k fun r => r.take s.clock count.toInt .overrange) busy (by simp [sampleOf])]
    rfl

/-- The expiry of a load-cell conversion (R7). -/
theorem exec_expireLc {k : Fin 2} (conv : s.msq.lcConv = some c) (turn : c.channel = k.val) :
    exec (.replyLimitExpiry .loadCell) s = .next { deliver k .noReply (s.modifyLc k fun r => r.expire s.clock) with
      msq := { s.msq with
        lc := s.msq.lc.set k ((s.msq.lc.get k).expire s.clock), lcConv := some ⟨1 - k.val, s.clock⟩ } } := by
  simp only [exec, execReplyLimitExpiry, expireConversion, State.lcOutstanding_some conv turn, startLc_delivered conv turn]

/-- Settles O22: an expiry delivers a sample without a count. -/
theorem expiryRecordsNoReply : Obligations.ExpiryRecordsNoReply := by
  intro s c
  refine ⟨fun z conv turn => ?_, fun k conv turn => ?_⟩
  · have started := startTc_eq (s := s.modifyTc z fun r => r.expire s.clock) (c := c) conv (by omega)
    rw [turn] at started
    simp only [exec, execReplyLimitExpiry, expireConversion, State.tcOutstanding_some conv turn, started]
    rfl
  · intro x live entry window
    rw [exec_expireLc conv turn]
    by_cases busy : x.state = .taring ∨ x.state = .capturing
    · rw [if_pos busy, deliver_busy (s := s.modifyLc k fun r => r.expire s.clock) busy (by simp)]
      rfl
    · have quiet : x.state = .idle ∨ x.state = .opened := by cases h : x.state <;> simp_all
      rw [if_neg busy, deliver_quiet (s := s.modifyLc k fun r => r.expire s.clock) _ quiet]
      rfl

/-- Settles O23: what cannot be taken only starts the next conversion. -/
theorem unusableReplyTouchesNoRecord : Obligations.UnusableReplyTouchesNoRecord := by
  intro s c why real
  refine ⟨fun conv inside => ?_, fun conv inside => ?_, fun link => rfl⟩
  · intro after
    have started : startTc s = after := startTc_eq conv inside
    refine ⟨?_, fun ch st v other => ?_⟩
    · cases why <;> first | exact absurd rfl real | exact congrArg Host.Outcome.next started
    · simp only [exec, execThermocoupleResult, arriveTc, State.tcOutstanding_some (z := ⟨c.channel, inside⟩) conv rfl,
        other, if_false, started]
  · intro after
    have started : startLc s = after := startLc_eq conv inside
    refine ⟨?_, fun ch st v other => ?_⟩
    · cases why <;> first | exact absurd rfl real | exact congrArg Host.Outcome.next started
    · simp only [exec, execLoadCellResult, arriveLc, State.lcOutstanding_some (k := ⟨c.channel, inside⟩) conv rfl,
        other, if_false, started]

end Sys2Proof.Machine
end

section
/-! PROOFS. Settling: a taring scale settles on its zero, a capturing one into a ply (R58 to R62, R66 to R72). -/

namespace Sys2Proof.Machine

variable {s : State} {c : Conversion}

/-! ### A sample that may settle -/

/-- A window is steady where it is full and usable and every two of its weights lie within the band (R60). -/
theorem steady_eq (w : List Sample) (b : Nat) : steady w b = decide (w.length = 8 ∧ (∀ e ∈ w, e.usable = true) ∧
    ∀ x ∈ w.filterMap (fun e : Sample => e.weight), ∀ y ∈ w.filterMap (fun e : Sample => e.weight), x - y ≤ (b : Int)) := by
  rw [Bool.eq_iff_iff]
  simp only [steady, Bool.and_eq_true, decide_eq_true_eq, List.all_eq_true, spread_le, and_assoc]

/-- A load-cell result, as a table event or as a result frame, is a sample with an OK status (R6). -/
theorem exec_sample {k : Fin 2} (conv : s.msq.lcConv = some c) (turn : c.channel = k.val) (count : BitVec 24) :
    exec (.loadCellResult (BitVec.ofNat 8 k.val) .ok count) s = .next
      { deliver k (.ok count.toInt) (s.modifyLc k fun r => r.take s.clock count.toInt .ok) with msq := { s.msq with
        lc := s.msq.lc.set k ((s.msq.lc.get k).take s.clock count.toInt .ok), lcConv := some ⟨1 - k.val, s.clock⟩ } } := by
  simp only [exec, execLoadCellResult, channel_toNat k (by decide), arriveLc_taken conv turn, startLc_delivered conv turn,
    sampleOf]

theorem exec_tareSettled (k : Fin 2) (count : BitVec 24) (s : State) :
    exec (.tareSettled k count) s = exec (.loadCellResult (BitVec.ofNat 8 k.val) .ok count) s := by
  simp only [exec, execTareSettled, execLoadCellResult, channel_toNat k (by decide)]

theorem exec_plySettled (k : Fin 2) (count : BitVec 24) (s : State) :
    exec (.plySettled k count) s = exec (.loadCellResult (BitVec.ofNat 8 k.val) .ok count) s := by
  simp only [exec, execPlySettled, execLoadCellResult, channel_toNat k (by decide)]

/-! ### A tare -/

/-- The window entry of a taring scale's sample with an OK status (R58, R59). -/
def Scale.tareSample (x : Scale) (raw : Int) : Sample :=
  let w := weightOf (raw - x.reference.getD raw) x.gain
  ⟨some raw, some w, decide (w.natAbs ≤ 65535)⟩

/-- A taring scale with such a sample joined (R58 to R60). -/
def Scale.tareJoined (x : Scale) (raw : Int) : Scale :=
  ({ x.observe (.ok raw) with reference := some (x.reference.getD raw) } : Scale).joinWindow (x.tareSample raw)

theorem deliver_taring {k : Fin 2} (raw : Int) (taring : (s.scales.get k).state = .taring) :
    let t := { s with scales := s.scales.set k ((s.scales.get k).tareJoined raw) }
    deliver k (.ok raw) s = if ((s.scales.get k).tareJoined raw).settled then settleTare k t else t := by
  intro t
  have joined : ∀ x : Scale, ((x.observe (.ok raw)).withReference (.ok raw)).joinWindow
      (((x.observe (.ok raw)).withReference (.ok raw)).tareEntry (.ok raw)) = x.tareJoined raw := by
    intro x
    cases h : x.reference <;> simp [Scale.withReference, Scale.observe, Scale.tareEntry, Scale.tareJoined, Scale.tareSample, h]
  simp only [deliver, taring, joined, State.modifyScale, Table.get_modify_self]
  rfl

theorem settleTare_of {k : Fin 2} {y : Scale} (here : s.scales.get k = y) :
    settleTare k s = setNotice .charge (.settledTare k.val y.newZero) { s with
      scales := s.scales.set k { y.leaveTaring with zero := y.newZero, tareTime := some s.clock } } := by
  subst here; rfl

/-- Settles O39. -/
theorem tareSettlesOnTheMean : Obligations.TareSettlesOnTheMean := by
  intro k count s c x conv turn taring raw w entry window ws steadyNow run
  have still : steady window x.band = steadyNow := steady_eq window x.band
  have joined : x.tareJoined raw = { x with
      live := (x.observe (.ok raw)).live, window := window, steadyRun := run, reference := some (x.reference.getD raw) } := by
    have : run = if steady window x.band then x.steadyRun + 1 else 0 := by rw [still]
    rw [this]; rfl
  have settled : (x.tareJoined raw).settled = (steadyNow && decide (x.count ≤ run)) := by
    rw [joined, Scale.settled, still]
  let u := s.modifyLc k fun r => r.take s.clock raw .ok
  have delivered : deliver k (.ok raw) u = if (x.tareJoined raw).settled
      then settleTare k { u with scales := s.scales.set k (x.tareJoined raw) }
      else { u with scales := s.scales.set k (x.tareJoined raw) } := deliver_taring (s := u) raw taring
  refine ⟨_, (exec_tareSettled k count s).trans (exec_sample conv turn count), exec_sample conv turn count, ?_⟩
  rw [show count.toInt = raw from rfl, delivered]
  by_cases done : (x.tareJoined raw).settled = true
  · rw [if_pos done]
    obtain ⟨now, ran⟩ : steadyNow = true ∧ x.count ≤ run := by simpa [settled] using done
    refine ⟨fun j other => ?_, rfl, fun h => ?_, fun _ _ => ?_⟩
    · simp [settleTare_scales, Table.set_set, Table.get_set_ne _ _ other]
    · rcases h with h | h
      · exact absurd (h ▸ now) (by decide)
      · omega
    · rw [settleTare_of (Table.get_set_self ..), joined]
      refine ⟨rfl, ?_⟩
      simp only [setNotice_scales, Table.get_set_self]
      rfl
  · rw [if_neg done]
    refine ⟨fun j other => Table.get_set_ne _ _ other, rfl, fun h => ⟨rfl, ?_⟩, fun h => ?_⟩
    · simp only [Table.get_set_self, joined]
    · exact fun ran => absurd (by simp [settled, h, ran]) done

/-! ### A capture -/

/-- The window entry of a capturing scale's sample with an OK status (R57, R59). -/
theorem captureEntry_ok (x : Scale) (raw : Int) : x.captureEntry (.ok raw) =
    let w := weightOf (raw - x.zero) x.gain
    ⟨some raw, some ((if 65535 < w then 65535 else w.toNat : Nat) : Int), decide (w ≤ 65535)⟩ := by
  simp only [Scale.captureEntry, Scale.reading, weighed, Arrival.raw]
  generalize weightOf (raw - x.zero) x.gain = w
  by_cases heavy : 65535 < w
  · simp only [heavy, if_true, decide_eq_false (show ¬ w ≤ 65535 by omega)]
    rfl
  · by_cases under : w < 0
    · simp [heavy, under]
      omega
    · simp [heavy, under]
      omega

/-- A capturing scale with a sample with an OK status joined (R57 to R60). -/
def Scale.plyJoined (x : Scale) (raw : Int) : Scale :=
  (x.observe (.ok raw)).joinWindow (x.captureEntry (.ok raw))

theorem deliver_capturing {k : Fin 2} (raw : Int) (capturing : (s.scales.get k).state = .capturing) :
    let t := { s with scales := s.scales.set k ((s.scales.get k).plyJoined raw) }
    deliver k (.ok raw) s = if ((s.scales.get k).plyJoined raw).settled then settleCapture k t else t := by
  simp only [deliver, capturing, State.modifyScale, Table.get_modify_self]
  rfl

/-- The lots after a use of one has ended, in the words of the statements (R79). -/
theorem releaseLot_lotsAfter (id : Nat) (s : State) :
    (releaseLot id s).ltr.lots = s.lotsAfter [] (some id) s.ltr.lots := by
  rw [releaseLot_lots, State.lotsAfter]
  refine List.map_congr_left fun l _ => ?_
  have same : some id = some l.id ↔ l.id = id := by rw [Option.some.injEq, eq_comm]
  simp only [List.countP_nil, Nat.lt_irrefl, false_or, same]
  rfl

/-- A use of a lot that a ply names does not end it (R79). -/
theorem releaseLot_raiseRef (id : Nat) {t : State} (lots : t.ltr.lots = (raiseRef id s).ltr.lots) :
    (releaseLot id t).ltr.lots = (raiseRef id s).ltr.lots := by
  rw [releaseLot_lots, lots, raiseRef, State.modifyLot, List.map_map]
  refine List.map_congr_left fun l _ => ?_
  by_cases named : l.id = id <;> simp [named, State.lotInUse]

/-- A charge ID is issued once, by the charge counter, which then counts on (R69; log entry 3). -/
theorem issueCharge_eq (e : Session) (s : State) : ∃ counter free,
    issueCharge e s = (e.chargeId.getD s.shc.chargeCounter,
      { s with shc := { s.shc with chargeCounter := counter }, freeCount := free }) ∧
    (e.chargeId.isSome → counter = s.shc.chargeCounter ∧ free = s.freeCount) ∧
    (e.chargeId = none → Fits32 (s.shc.chargeCounter + 1) s.freeCount counter free) := by
  unfold issueCharge
  split <;> rename_i h <;> rw [h]
  · exact ⟨_, _, rfl, fun _ => ⟨rfl, rfl⟩, nofun⟩
  · refine ⟨(fitWord (s.shc.chargeCounter + 1) s).1, (fitWord (s.shc.chargeCounter + 1) s).2.freeCount, ?_, nofun,
      fun _ => fitWord_fits _ s⟩
    dsimp only
    rw [fitWord_state]
    rfl

/-- A capture settles too light (R68). -/
theorem settleCapture_light {k : Fin 2} {y : Scale} {e : Session} {lot : Nat} (here : s.scales.get k = y)
    (session : y.session = some e) (armed : e.armedLot = some lot) (light : (y.settledValue : Int) - e.total < y.minPly) :
    settleCapture k s = setNotice .charge (.plyTooLight k.val (y.settledValue - e.total))
      (releaseLot lot { s with scales := s.scales.set k (y.leaveCapturing e) }) := by
  subst here
  simp only [settleCapture, session, light, if_true, endCapture, armed]
  rfl

/-- A capture settles into a ply (R68). -/
theorem settleCapture_ply {k : Fin 2} {y : Scale} {e : Session} {lot : Nat} (here : s.scales.get k = y)
    (session : y.session = some e) (armed : e.armedLot = some lot)
    (heavy : ¬ (y.settledValue : Int) - e.total < y.minPly) :
    let i := issueCharge e (raiseRef lot s)
    let ply : Ply := ⟨y.settledValue - e.total, lot⟩
    settleCapture k s = setNotice .charge (.settledPly k.val i.1 (e.plies.length + 1) ply y.settledValue
        (e.classOf y.settledValue))
      (releaseLot lot { i.2 with
        scales := s.scales.set k (y.leaveCapturing (e.withPly ⟨ply, s.clock⟩ y.settledValue i.1)) }) := by
  subst here
  have same : (issueCharge e (raiseRef lot s)).2.scales = s.scales := by simp
  simp only [settleCapture, session, heavy, if_false, capturePly, armed, Option.getD_some, endCapture, releaseLot?,
    State.modifyScale, same, Table.modify]
  simp [Session.withPly, Scale.leaveCapturing]

/-- Settles O40. -/
theorem plySettlesOnTheMean : Obligations.PlySettlesOnTheMean := by
  intro k count s c e lot x conv turn capturing session armed w shown entry window ws steadyNow run value diff
  have still : steady window x.band = steadyNow := steady_eq window x.band
  have joined : x.plyJoined count.toInt = { x with
      live := (x.observe (.ok count.toInt)).live, window := window, steadyRun := run } := by
    have : run = if steady window x.band then x.steadyRun + 1 else 0 := by rw [still]
    rw [Scale.plyJoined, captureEntry_ok, this]; rfl
  have settled : (x.plyJoined count.toInt).settled = (steadyNow && decide (x.count ≤ run)) := by
    rw [joined, Scale.settled, still]
  let u := s.modifyLc k fun r => r.take s.clock count.toInt .ok
  have delivered : deliver k (.ok count.toInt) u = if (x.plyJoined count.toInt).settled
      then settleCapture k { u with scales := s.scales.set k (x.plyJoined count.toInt) }
      else { u with scales := s.scales.set k (x.plyJoined count.toInt) } := deliver_capturing (s := u) _ capturing
  refine ⟨_, (exec_plySettled k count s).trans (exec_sample conv turn count), exec_sample conv turn count, ?_⟩
  rw [delivered]
  by_cases done : (x.plyJoined count.toInt).settled = true
  · rw [if_pos done]
    obtain ⟨now, ran⟩ : steadyNow = true ∧ x.count ≤ run := by simpa [settled] using done
    have reached : ¬ (steadyNow = false ∨ run < x.count) := by simp [now, ran]
    by_cases light : diff < x.minPly
    · rw [settleCapture_light (lot := lot) (Table.get_set_self ..) (by rw [joined]; exact session) armed
        (by rw [joined]; exact light), joined]
      refine ⟨fun j other => ?_, rfl, rfl, rfl, rfl, fun early => absurd early reached, fun _ _ _ => ⟨?_, rfl, ?_, rfl⟩,
        fun _ _ heavy => absurd light (by omega)⟩
      · simp only [setNotice_scales, releaseLot_scales, Table.get_set_ne _ _ other]
      · simp only [setNotice_scales, releaseLot_scales, Table.get_set_self]
        rfl
      · exact releaseLot_lotsAfter ..
    · rw [settleCapture_ply (lot := lot) (Table.get_set_self ..) (by rw [joined]; exact session) armed
        (by rw [joined]; exact light), joined]
      obtain ⟨counter, free, issued, kept, counts⟩ := issueCharge_eq e (raiseRef lot { u with
        scales := s.scales.set k { x with
          live := (x.observe (.ok count.toInt)).live, window := window, steadyRun := run } })
      rw [issued]
      refine ⟨fun j other => ?_, rfl, rfl, rfl, rfl, fun early => absurd early reached, fun _ _ small => absurd small light,
        fun _ _ _ => ⟨?_, rfl, ?_, fun old => ?_, counts⟩⟩
      · simp only [setNotice_scales, releaseLot_scales, Table.set_set, Table.get_set_ne _ _ other]
      · simp only [setNotice_scales, releaseLot_scales, Table.set_set, Table.get_set_self]
        rfl
      · exact releaseLot_raiseRef (s := s) lot rfl
      · obtain ⟨rfl, rfl⟩ := kept old
        exact ⟨rfl, rfl⟩
  · rw [if_neg done]
    have notYet : steadyNow = true → ¬ x.count ≤ run := fun now ran => done (by simp [settled, now, ran])
    refine ⟨fun j other => Table.get_set_ne _ _ other, rfl, rfl, rfl, rfl, fun _ => ⟨?_, rfl, rfl, rfl⟩,
      fun now ran => absurd ran (notYet now), fun now ran => absurd ran (notYet now)⟩
    simp only [Table.get_set_self, joined]

end Sys2Proof.Machine
end

section
/-! PROOFS. Setups, zone requests and the heat mode (R10, R15 to R22, R29 to R31, R37, R38, R84, R105). -/

namespace Sys2Proof.Machine

variable {s : State}

/-! ### Requests on a port without held fetch -/

/-- A permitted request on any port but the trace port is answered by its owner. -/
theorem exec_asked {i : Instr} {p : Port} {c : Command} {owner : State → State × Answer}
    (arm : exec i s = .next (transact p c owner s)) (port : p ≠ .trace := by decide)
    (permitted : c.permitted p = true := by rfl) :
    exec i s = .next (s.replied p (owner s).2 (owner s).1) :=
  exec_taken arm (s.inHeldFetch_of_ne port) permitted

/-- The status of setup values, where being in range is said as one proposition (0.6). -/
theorem setupStatus_of_iff {b : Bool} {P : Prop} [Decidable P] (h : b = true ↔ ¬ P) :
    setupStatus b = if P then .ok else .clamped := by
  unfold setupStatus
  by_cases p : P <;> simp_all

theorem setupStatus_nearest {lo hi : Nat} (v : Nat) (h : lo ≤ hi) :
    setupStatus (nearest lo hi v ≠ v) = clampStatus lo hi v := by
  rw [← clampNat_eq_nearest v h, setupStatus_clampNat v h]

/-- A setup value changes exactly where it was out of its range (0.6). -/
theorem nearest_ne_iff {lo hi : Nat} (v : Nat) (h : lo ≤ hi) : nearest lo hi v ≠ v ↔ ¬ (lo ≤ v ∧ v ≤ hi) := by
  rw [← clampNat_eq_nearest v h, clampNat_ne_iff v h]

/-- Settles O24. -/
theorem stationSetupsAreWritten : Obligations.StationSetupsAreWritten := by
  intro s
  refine ⟨fun v => ?_, fun b h n => ?_, fun free w => ?_, fun v => ?_, fun v => ?_⟩
  · rw [exec_asked (i := .measureSetup .press v) (owner := measureSetup v) rfl]
    simp only [measureSetup, setupStatus_nearest _ (show 1 ≤ 10 by decide), clampNat_eq_nearest _ (show 1 ≤ 10 by decide)]
  · rw [exec_asked (i := .budgetSetup .press b h n) (owner := budgetSetup b h n) rfl]
    simp only [budgetSetup, clampNat_eq_nearest _ (show 0 ≤ 200000 by decide), clampNat_eq_nearest _ (show 0 ≤ 500 by decide),
      clampNat_eq_nearest _ (show 20 ≤ 400 by decide)]
    rw [setupStatus_of_iff (P := b.toNat ≤ 200000 ∧ h.toNat ≤ 500 ∧ 20 ≤ n.toNat ∧ n.toNat ≤ 400)]
    simp only [Bool.or_eq_true, decide_eq_true_eq, nearest_ne_iff _ (show 0 ≤ 200000 by decide),
      nearest_ne_iff _ (show 0 ≤ 500 by decide), nearest_ne_iff _ (show 20 ≤ 400 by decide)]
    omega
  · rw [exec_taken (i := .setCurtail .trace w) (owner := setCurtail w) rfl (s.inHeldFetch_trace free _) rfl]
    simp only [setCurtail, setupStatus_nearest _ (show 0 ≤ 200000 by decide),
      clampNat_eq_nearest _ (show 0 ≤ 200000 by decide)]
  · rw [exec_asked (i := .lotSetup .charge v) (owner := lotSetup v) rfl]
    simp only [lotSetup, setupStatus_nearest _ (show 1 ≤ 240 by decide), clampNat_eq_nearest _ (show 1 ≤ 240 by decide)]
  · rw [exec_asked (i := .setStation .press v) (owner := setStation v) rfl]
    rfl

/-! ### Zone requests -/

/-- An identifier operand that names an index (0.6). -/
theorem inRange_eq {n : Nat} {b : BitVec 8} {k : Fin n} (h : b.toNat = k.val) : inRange n b = some k := by
  simp [inRange, h]

/-- A signed setup value at the nearer limit of its range (R15). -/
theorem clampSigned_eq {lo hi : Nat} (v : Int) (h : lo ≤ hi) :
    clampSigned lo hi v = if v < lo then lo else if (hi : Int) < v then hi else v.toNat := by
  unfold clampSigned clampNat
  split_ifs <;> omega

/-- Settles O25. -/
theorem zoneSetupIsPendingAndDerived : Obligations.ZoneSetupIsPendingAndDerived := by
  intro zone power bias band gain idle trip s
  have taken := exec_asked (i := .zoneSetup .press zone power bias band gain idle trip) (s := s)
    (owner := zoneSetup zone power bias band gain idle trip) rfl
  refine ⟨fun beyond => ?_, fun z named => ?_⟩
  · rw [taken, zoneSetup, inRange_none zone beyond]
  · intro u base range
    have clamped : clampSetup power bias band gain idle trip = u := by
      simp [clampSetup, u, clampNat_eq_nearest, clampSigned_eq]
    have status : setupStatus (setupClamped u power bias band gain idle trip) = if range then .ok else .clamped := by
      apply setupStatus_of_iff
      simp only [setupClamped, u, Bool.or_eq_true, decide_eq_true_eq, nearest_ne_iff _ (show 100 ≤ 20000 by decide),
        nearest_ne_iff _ (show 0 ≤ 1000 by decide), nearest_ne_iff _ (show 10 ≤ 2000 by decide), range]
      split_ifs <;> omega
    rw [taken, zoneSetup, inRange_eq named]
    simp only [clamped, status]
    congr 2
    have derived : (s.modifyZone z fun x => { x with pendingSetup := some u }).derivedSetpoint z =
        if s.zct.heatMode = .standby then base - s.zct.setback else base := by
      have lowered : (s.modifyZone z fun x => { x with pendingSetup := some u }).baseSetpoint z = base := by
        unfold State.baseSetpoint
        simp only [base, State.modifyZone, Table.get_modify_self, Option.getD_some]
        rfl
      unfold State.derivedSetpoint
      rw [lowered]
      cases h : s.zct.heatMode <;> simp [State.modifyZone, h]
    unfold deriveZone
    rw [derived]
    simp only [State.modifyZone, Table.modify, Table.set_set, Table.get_set_self]

/-- Every zone's pending setpoint, derived afresh (R17). -/
theorem deriveAll_zone (s : State) (z : Fin 12) :
    (deriveAll s).zct.zones.get z = { s.zct.zones.get z with pendingSetpoint := s.derivedSetpoint z } := by
  simp [deriveAll]

/-- Settles O26. -/
theorem heatSetupDerivesInStandby : Obligations.HeatSetupDerivesInStandby := by
  intro band delay setback s
  have status : setupStatus (nearest 10 200 band.toNat ≠ band.toNat || nearest 0 120 delay.toNat ≠ delay.toNat ||
        nearest 0 1000 setback.toNat ≠ setback.toNat) =
      if 10 ≤ band.toNat ∧ band.toNat ≤ 200 ∧ delay.toNat ≤ 120 ∧ setback.toNat ≤ 1000 then .ok else .clamped := by
    apply setupStatus_of_iff
    simp only [Bool.or_eq_true, decide_eq_true_eq, nearest_ne_iff _ (show 0 ≤ 120 by decide),
      nearest_ne_iff _ (show 0 ≤ 1000 by decide), nearest_ne_iff _ (show 10 ≤ 200 by decide)]
    omega
  refine ⟨_, exec_asked (i := .heatSetup .press band delay setback) (owner := heatSetup band delay setback) rfl, ?_⟩
  simp only [heatSetup, clampNat_eq_nearest _ (show 10 ≤ 200 by decide), clampNat_eq_nearest _ (show 0 ≤ 120 by decide),
    clampNat_eq_nearest _ (show 0 ≤ 1000 by decide), status]
  by_cases standby : s.zct.heatMode = .standby
  · rw [if_pos standby]
    refine ⟨rfl, rfl, rfl, rfl, rfl, rfl, fun production => absurd (standby.symm.trans production) (by decide),
      fun _ z => ?_, rfl, rfl⟩
    refine (deriveAll_zone _ z).trans ?_
    simp only [State.derivedSetpoint, standby]
    rfl
  · rw [if_neg standby]
    exact ⟨rfl, rfl, rfl, rfl, rfl, rfl, fun _ => rfl, fun h => absurd h standby, rfl, rfl⟩

/-- A mode above 2 asks for no change; the three others ask for theirs (R19). -/
theorem modeChange_eq {mode : BitVec 8} (demand : BitVec 16) (frames : BitVec 8) (known : mode.toNat < 3) :
    modeChange mode demand frames = some (
      if mode.toNat = 0 then .off
      else if mode.toNat = 1 then .auto
      else .manual (if 1000 < demand.toNat then 1000 else demand.toNat)
        (if frames.toNat = 0 then .continuous else .left frames.toNat)) := by
  have held : min 1000 demand.toNat = if 1000 < demand.toNat then 1000 else demand.toNat := by split_ifs <;> omega
  have zero : frames = 0#8 ↔ frames.toNat = 0 := by simp [← BitVec.toNat_inj]
  unfold modeChange
  interval_cases mode.toNat
  · rfl
  · rfl
  · simp [held, zero]

theorem modeChange_none {mode : BitVec 8} (demand : BitVec 16) (frames : BitVec 8) (h : 3 ≤ mode.toNat) :
    modeChange mode demand frames = none := by
  unfold modeChange
  split <;> first | omega | rfl

/-- Settles O27. -/
theorem zoneModeAndClearAreJudged : Obligations.ZoneModeAndClearAreJudged := by
  refine ⟨fun zone mode demand frames s => ?_, fun zone s => ?_⟩
  · have taken := exec_asked (i := .zoneMode .press zone mode demand frames) (s := s)
      (owner := zoneMode zone mode demand frames) rfl
    rw [taken, zoneMode]
    refine ⟨fun bad => ?_, fun z named known => ?_⟩
    · rcases bad with beyond | unknown
      · rw [inRange_none zone beyond]
      · rw [modeChange_none demand frames unknown]
        cases inRange 12 zone <;> rfl
    · have status : setupStatus (demandClamped mode demand) =
          if mode.toNat = 2 ∧ 1000 < demand.toNat then .clamped else .ok := by
        have two : mode = 2#8 ↔ mode.toNat = 2 := by simp [← BitVec.toNat_inj]
        simp [setupStatus, demandClamped, two]
      rw [inRange_eq named, modeChange_eq demand frames known]
      refine ⟨fun fault => ?_, fun working => ?_⟩
      · simp only [fault, if_true]
      · simp only [working, if_false, status]
        rfl
  · have taken := exec_asked (i := .clearZoneFault .press zone) (s := s) (owner := clearZoneFault zone) rfl
    rw [taken, clearZoneFault]
    refine ⟨fun beyond => ?_, fun z named => ?_⟩
    · rw [inRange_none zone beyond]
    · intro x
      rw [inRange_eq named]
      refine ⟨fun working => ?_, fun f fault info => ?_⟩
      · dsimp only
        rw [if_pos (show (s.zct.zones.get z).mode ≠ .fault from working)]
      · have cleared : x.cleared = f.clearAccepted := by simp [Zone.cleared, info]
        have faulty : (s.zct.zones.get z).mode = .fault := fault
        simp only [faulty, ne_eq, not_true_eq_false, if_false]
        rw [show (s.zct.zones.get z).cleared = f.clearAccepted from cleared]
        refine ⟨fun before => ?_, fun new ok under => ?_, fun new high => ?_⟩
        · simp only [before, if_true]
        · have clearable : s.clearable z = true := by simpa [State.clearable, ok] using under
          have accepted : x.acceptClear = { x with fault := some { f with clearAccepted := true } } := by
            simp [Zone.acceptClear, info]
          simp only [new, clearable, Bool.false_eq_true, if_false, if_true]
          rw [← accepted]
          rfl
        · have kept : s.clearable z = false := by
            rcases high with bad | hot
            · simp [State.clearable, bad]
            · simpa [State.clearable] using fun _ => hot
          simp only [new, kept, Bool.false_eq_true, if_false]

/-! ### The heat mode -/

/-- A notice that joins a set is its last (R171). -/
theorem PortState.join_notices (q : PortState) (n : Notice) : ∃ old, (q.join n).notices = old ++ [n] := by
  unfold PortState.join
  split
  · exact ⟨_, rfl⟩
  · exact ⟨_, rfl⟩

/-- What the end of the standby wait looks at, with one delay in force (R29; log entry 8). -/
theorem standbyDue_eq {since : Nat} (empty : s.tableEmpty = true) (mode : s.zct.heatMode = .production)
    (waiting : s.zct.emptySince = some since) (past : since ≤ s.clock) (delay : s.zct.stepDelay = s.zct.standbyDelay) :
    s.standbyDue = true ↔ s.zct.standbyDelay ≠ 0 ∧ s.zct.standbyDelay * 60 ≤ s.clock - since := by
  simp [State.standbyDue, State.waitOver, waiting, empty, mode, delay, elapsed, past]

/-- Settles O28. -/
theorem heatModeChanges : Obligations.HeatModeChanges := by
  intro s lowered
  have standby : lowered (enterStandby s) :=
    ⟨rfl, rfl, fun z => deriveAll_zone _ z, PortState.join_notices .., rfl⟩
  have nowTaken := exec_asked (i := .standbyNow .press) (s := s) (owner := standbyNow) rfl
  have wakeTaken := exec_asked (i := .wake .press) (s := s) (owner := wake) rfl
  refine ⟨fun shot => ?_, fun empty mode => ?_, fun empty mode => ?_, fun since empty mode waiting past delay => ?_,
    fun mode => ?_, fun mode => ?_⟩
  · rw [nowTaken, standbyNow, shot]
    rfl
  · simp only [nowTaken, standbyNow, empty, mode, Bool.not_true, Bool.false_eq_true, if_false]
  · simp only [nowTaken, standbyNow, empty, mode, Bool.not_true, Bool.false_eq_true, if_false]
    exact ⟨_, rfl, rfl, standby⟩
  · have due := standbyDue_eq empty mode waiting past delay
    have arm : exec .standbyWaitEnd s = .next (if s.standbyDue then enterStandby s else s) := rfl
    refine ⟨fun finite late => ?_, fun early => ?_⟩
    · rw [arm, if_pos (due.mpr ⟨finite, late⟩)]
      exact ⟨_, rfl, standby⟩
    · rw [arm, if_neg fun h => ?_]
      obtain ⟨finite, late⟩ := due.mp h
      omega
  · simp only [wakeTaken, wake, mode]
    split <;> rfl
  · simp only [wakeTaken, wake, mode]
    exact ⟨_, rfl, rfl, rfl, fun z => deriveAll_zone _ z, PortState.join_notices .., rfl, rfl⟩

end Sys2Proof.Machine
end

section
/-! PROOFS. The frame boundary at a zone: the mode stage, the fault watch, the control law (R18 to R27). -/

namespace Sys2Proof.Machine

/-! ### The stages before the watch -/

/-- A zone that has taken its pending setup and setpoint (R18). -/
def Zone.fresh (x : Zone) : Zone :=
  { x with active := x.pendingSetup.getD x.active, pendingSetup := none, setpoint := x.pendingSetpoint }

theorem Zone.takeSetup_eq (x : Zone) : x.takeSetup = { x with active := x.pendingSetup.getD x.active, pendingSetup := none } := by
  unfold Zone.takeSetup
  split <;> rename_i h <;> rw [h]
  · rfl
  · rw [Option.getD_none, ← h]

/-- A pending mode change takes effect (R18, R19). -/
theorem Zone.settle_change {x : Zone} {c : ModeChange} (h : x.pendingMode = some c) :
    x.settle = { x.fresh.change c with pendingMode := none } := by
  have uncounted : x.takeSetup.countManual = x.takeSetup := by
    simp [Zone.countManual, Zone.takeSetup_eq, h]
  rw [Zone.settle, uncounted, Zone.takeSetup_eq]
  cases c <;> simp [Zone.takeMode, Zone.takeSetpoint, Zone.change, Zone.fresh, h]

/-- A zone with nothing pending keeps its mode, but for the manual count (R18, R20). -/
theorem Zone.settle_keep {x : Zone} (h : x.pendingMode = none) (working : x.mode ≠ .fault) :
    x.settle = x.fresh.countManual := by
  have counted : ({ x with active := x.pendingSetup.getD x.active, pendingSetup := none } : Zone).countManual.takeMode =
      ({ x with active := x.pendingSetup.getD x.active, pendingSetup := none } : Zone).countManual := by
    simp only [Zone.countManual, h]
    cases mode : x.mode with
    | fault => exact absurd mode working
    | manual =>
      split
      · split <;> simp [Zone.takeMode]
      · simp [Zone.takeMode]
    | _ => simp [Zone.takeMode]
  rw [Zone.settle, Zone.takeSetup_eq, counted]
  simp only [Zone.countManual, Zone.takeSetpoint, Zone.fresh]
  split
  · split <;> rfl
  · rfl

theorem Zone.settle_of_fault {x : Zone} (mode : x.mode = .fault) :
    x.settle = ({ x with active := x.pendingSetup.getD x.active, pendingSetup := none } : Zone).takeMode.takeSetpoint := by
  have uncounted : x.takeSetup.countManual = x.takeSetup := by
    simp [Zone.countManual, Zone.takeSetup_eq, mode]
  rw [Zone.settle, uncounted, Zone.takeSetup_eq]

/-- A zone in FAULT with nothing pending stays as it is until its clear has been accepted (R18, R22). -/
theorem Zone.settle_stuck {x : Zone} (h : x.pendingMode = none) (mode : x.mode = .fault) (kept : x.cleared = false) :
    x.settle = x.fresh := by
  rw [Zone.settle_of_fault mode]
  simp only [Zone.takeMode, h, mode]
  cases info : x.fault with
  | none => simp only [Zone.takeSetpoint, Zone.fresh, mode, info, h]
  | some f =>
    have same : f.clearAccepted = false := by simpa [Zone.cleared, info] using kept
    simp [same, Zone.takeSetpoint, Zone.fresh, mode, info, h]

/-- A zone whose clear has been accepted leaves FAULT (R18, R22). -/
theorem Zone.settle_cleared {x : Zone} {f : FaultInfo} (h : x.pendingMode = none) (mode : x.mode = .fault)
    (info : x.fault = some f) (cleared : f.clearAccepted = true) : x.settle = x.fresh.leaveFault f := by
  rw [Zone.settle_of_fault mode]
  simp only [Zone.takeMode, h, mode, info, cleared, if_true, Zone.leaveFault, Zone.takeSetpoint, Zone.fresh]
  split <;> rfl

/-- What the first stages take over whatever the mode (R18). -/
theorem Zone.settle_taken (x : Zone) :
    x.settle.active = x.pendingSetup.getD x.active ∧ x.settle.pendingSetup = none ∧ x.settle.pendingMode = none ∧
      x.settle.setpoint = x.pendingSetpoint ∧ x.settle.pendingSetpoint = x.pendingSetpoint := by
  cases pending : x.pendingMode with
  | some c => rw [Zone.settle_change pending]; cases c <;> exact ⟨rfl, rfl, rfl, rfl, rfl⟩
  | none =>
    by_cases mode : x.mode = .fault
    · by_cases cleared : ∃ f, x.fault = some f ∧ f.clearAccepted = true
      · obtain ⟨f, info, accepted⟩ := cleared
        rw [Zone.settle_cleared pending mode info accepted, Zone.leaveFault]
        split <;> exact ⟨rfl, rfl, pending, rfl, rfl⟩
      · have kept : x.cleared = false := by
          cases info : x.fault with
          | none => simp [Zone.cleared, info]
          | some f => simpa [Zone.cleared, info] using cleared
        rw [Zone.settle_stuck pending mode kept]
        exact ⟨rfl, rfl, pending, rfl, rfl⟩
    · rw [Zone.settle_keep pending mode, Zone.countManual]
      split
      · split <;> exact ⟨rfl, rfl, pending, rfl, rfl⟩
      · exact ⟨rfl, rfl, pending, rfl, rfl⟩

/-! ### The watch -/

section
variable {x : Zone} {j : Judged} {m : Int} (now : Nat)

theorem Zone.watch_of_working (working : x.mode = .auto ∨ x.mode = .manual) : x.watch j m now = x.watched j m now := by
  unfold Zone.watch
  rcases working with h | h <;> rw [h]

/-- A valid measurement at or below the trip temperature clears the invalid count (R21). -/
theorem Zone.watch_valid (working : x.mode = .auto ∨ x.mode = .manual) (valid : j = .ok) (cool : m ≤ x.active.trip) :
    x.watch j m now = { x with invalidCount := 0 } := by
  rw [Zone.watch_of_working now working, valid]
  exact if_neg (by omega)

/-- A temperature over the trip is a fault at once (R21). -/
theorem Zone.watch_hot (working : x.mode = .auto ∨ x.mode = .manual) (valid : j = .ok) (hot : (x.active.trip : Int) < m) :
    x.watch j m now = x.enterFault (.overTrip m) now := by
  rw [Zone.watch_of_working now working, valid]
  exact if_pos hot

/-- An invalid boundary is counted first, and a fault the second time (R21). -/
theorem Zone.watch_invalid (working : x.mode = .auto ∨ x.mode = .manual) (invalid : j ≠ .ok) :
    x.watch j m now = if x.invalidCount = 0 then { x with invalidCount := 1 } else x.enterFault (.invalid j) now := by
  rw [Zone.watch_of_working now working]
  cases j <;> first | rfl | exact absurd rfl invalid

/-- A zone in OFF or in FAULT is not watched (R21). -/
theorem Zone.watch_idle (idle : x.mode = .off ∨ x.mode = .fault) : x.watch j m now = x := by
  unfold Zone.watch
  rcases idle with h | h <;> rw [h]

end

/-- All that the watch can do: nothing, a count, or an entry into FAULT (R21). -/
theorem Zone.watch_cases (x : Zone) (j : Judged) (m : Int) (now : Nat) :
    x.watch j m now = x ∨ (∃ n, x.watch j m now = { x with invalidCount := n }) ∨
      ∃ cause, x.watch j m now = x.enterFault cause now := by
  by_cases working : x.mode = .auto ∨ x.mode = .manual
  · by_cases valid : j = .ok
    · rcases le_or_gt m x.active.trip with cool | hot
      · exact .inr (.inl ⟨_, Zone.watch_valid now working valid cool⟩)
      · exact .inr (.inr ⟨_, Zone.watch_hot now working valid hot⟩)
    · rw [Zone.watch_invalid now working valid]
      split
      · exact .inr (.inl ⟨_, rfl⟩)
      · exact .inr (.inr ⟨_, rfl⟩)
  · exact .inl (Zone.watch_idle now (by cases h : x.mode <;> simp_all))

/-- What the watch leaves alone (R21). -/
theorem Zone.watch_keeps (x : Zone) (j : Judged) (m : Int) (now : Nat) :
    let w := x.watch j m now
    w.active = x.active ∧ w.pendingSetup = x.pendingSetup ∧ w.pendingMode = x.pendingMode ∧ w.setpoint = x.setpoint ∧
      w.pendingSetpoint = x.pendingSetpoint ∧ w.integrator = x.integrator ∧ w.manualDemand = x.manualDemand := by
  dsimp only
  rcases x.watch_cases j m now with e | ⟨n, e⟩ | ⟨cause, e⟩ <;> rw [e] <;> exact ⟨rfl, rfl, rfl, rfl, rfl, rfl, rfl⟩

/-! ### The stages after the watch -/

/-- A zone's work after the watch: demand, READY mark and integrator (R18). -/
def Zone.finish (w : Zone) (j : Judged) (m : Int) (band : Nat) (cut : Bool) : Zone :=
  ((w.computeDemand j m).markReady j m band).integrate j m cut

section
variable (w : Zone) (j : Judged) (m : Int) (band : Nat) (cut : Bool)

theorem Zone.computeDemand_eq : ∃ d sat, w.computeDemand j m = w.withDemand d sat := by
  unfold Zone.computeDemand
  split
  · exact ⟨_, _, rfl⟩
  · exact ⟨_, _, rfl⟩
  · exact ⟨_, _, rfl⟩
  · split <;> exact ⟨_, _, rfl⟩

theorem Zone.integrate_eq : w.integrate j m cut = { w with
    integrator := if w.mode = .auto ∧ j = .ok ∧ w.saturated = false ∧ cut = false
      then max (-200) (min 1000 (w.integrator + (w.error m * w.active.gain).tdiv 1000)) else w.integrator } := by
  unfold Zone.integrate
  split <;> rfl

/-- The zone after these stages, field by field (R18, R26, R27). -/
theorem Zone.finish_eq : w.finish j m band cut = { w with
    demand := (w.computeDemand j m).demand
    saturated := (w.computeDemand j m).saturated
    ready := w.isReady j m band
    integrator := if w.mode = .auto ∧ j = .ok ∧ (w.computeDemand j m).saturated = false ∧ cut = false
      then max (-200) (min 1000 (w.integrator + (w.error m * w.active.gain).tdiv 1000)) else w.integrator } := by
  obtain ⟨d, sat, e⟩ := w.computeDemand_eq j m
  rw [Zone.finish, Zone.integrate_eq, Zone.markReady, e]
  rfl

variable {w j}

theorem Zone.demand_idle (idle : w.mode = .off ∨ w.mode = .fault) :
    (w.computeDemand j m).demand = 0 ∧ (w.computeDemand j m).saturated = false := by
  unfold Zone.computeDemand
  rcases idle with h | h <;> rw [h] <;> exact ⟨rfl, rfl⟩

theorem Zone.demand_manual (manual : w.mode = .manual) :
    (w.computeDemand j m).demand = w.manualDemand ∧ (w.computeDemand j m).saturated = false := by
  unfold Zone.computeDemand
  rw [manual]
  exact ⟨rfl, rfl⟩

theorem Zone.demand_invalid (auto : w.mode = .auto) (invalid : j ≠ .ok) :
    (w.computeDemand j m).demand = 0 ∧ (w.computeDemand j m).saturated = false := by
  unfold Zone.computeDemand
  simp only [auto, invalid, if_false]
  exact ⟨rfl, rfl⟩

/-- The demand of an AUTO zone with a valid measurement, held to 0 to 1000 (R23). -/
theorem Zone.demand_auto (auto : w.mode = .auto) (valid : j = .ok) :
    ((w.computeDemand j m).demand : Int) = max 0 (min 1000 (w.rawDemand m)) ∧
      ((w.computeDemand j m).saturated = true ↔ ((w.computeDemand j m).demand : Int) ≠ w.rawDemand m) := by
  have law : w.computeDemand j m =
      w.withDemand (clampDemand (w.rawDemand m)) (decide ((clampDemand (w.rawDemand m) : Int) ≠ w.rawDemand m)) := by
    unfold Zone.computeDemand
    rw [auto, valid]
    rfl
  rw [law]
  refine ⟨?_, decide_eq_true_iff⟩
  simp only [Zone.withDemand, clampDemand]
  omega

end

/-! ### A zone over the whole boundary -/

@[simp] theorem State.powered_zct (s : State) : s.powered.zct = s.zct := by
  unfold State.powered; split <;> rfl

@[simp] theorem State.powered_msq (s : State) : s.powered.msq = s.msq := by
  unfold State.powered; split <;> rfl

@[simp] theorem State.powered_judged (s : State) (z : Fin 12) : s.powered.judged z = s.judged z := by
  simp [State.judged]

/-- A zone as a boundary's watch leaves it (R18, R21). -/
def State.boundaryWatch (s : State) (z : Fin 12) : Zone :=
  (s.zct.zones.get z).settle.watch (s.judged z) (s.msq.tc.get z).value s.clock

/-- A zone after the boundary that a pulse works (R18). -/
theorem boundary_zone (s : State) (z : Fin 12) : (frameBoundary s.powered).zct.zones.get z =
    (s.boundaryWatch z).finish (s.judged z) (s.msq.tc.get z).value s.zct.readyBand
      ((frameBoundary s.powered).hbo.shares.get z).cut := by
  rw [frameBoundary_zones, State.finalZones_get, frameBoundary_hbo_eq]
  simp only [State.powered_zct, State.powered_msq, State.powered_judged, State.powered_clock, State.boundaryHbo,
    Table.get_ofFn]
  rfl

/-- A zone's boundary as the watch begins it, and what the watch hands on (R18). -/
theorem State.boundaryWatch_taken (s : State) (z : Fin 12) :
    let x := s.zct.zones.get z
    let w := s.boundaryWatch z
    w.active = x.pendingSetup.getD x.active ∧ w.pendingSetup = none ∧ w.pendingMode = none ∧
      w.setpoint = x.pendingSetpoint ∧ w.pendingSetpoint = x.pendingSetpoint := by
  intro x w
  obtain ⟨active, setup, mode, setpoint, pending⟩ := x.settle_taken
  obtain ⟨active', setup', mode', setpoint', pending', -, -⟩ :=
    x.settle.watch_keeps (s.judged z) (s.msq.tc.get z).value s.clock
  exact ⟨active'.trans active, setup'.trans setup, mode'.trans mode, setpoint'.trans setpoint, pending'.trans pending⟩

/-- READY, as the statements say it (R27). -/
theorem Zone.isReady_iff (w : Zone) (j : Judged) (m : Int) (band : Nat) : w.isReady j m band = true ↔
    (w.mode = .auto ∨ w.mode = .manual) ∧ j = .ok ∧ |(w.setpoint : Int) - m| ≤ band := by
  have size : ((w.setpoint : Int) - m).natAbs ≤ band ↔ |(w.setpoint : Int) - m| ≤ band := by
    rw [Int.abs_eq_natAbs]
    exact Int.ofNat_le.symm
  simp only [Zone.isReady, Bool.and_eq_true, Bool.or_eq_true, beq_iff_eq, decide_eq_true_eq, size, and_assoc]

/-- Settles O29. -/
theorem boundaryWorksEveryZone : Obligations.BoundaryWorksEveryZone := by
  intro s z boundary
  refine ⟨_, exec_frameBoundary boundary, ?_⟩
  intro x y m
  obtain ⟨active, setup, mode, setpoint, pending⟩ := s.boundaryWatch_taken z
  have zone : y = _ := (boundary_zone s z).trans (Zone.finish_eq ..)
  rw [zone]
  exact ⟨active, setup, mode, setpoint, pending, fun idle => Zone.demand_idle (w := s.boundaryWatch z) _ idle,
    fun manual => Zone.demand_manual (w := s.boundaryWatch z) _ manual,
    fun auto invalid => Zone.demand_invalid (w := s.boundaryWatch z) _ auto invalid, Zone.isReady_iff ..⟩

/-- Where the first stages leave a zone in AUTO, they have kept its integrator, or set it to 0 on the way out of FAULT
(R18, R19, R22). -/
theorem Zone.settle_integrator {x : Zone} (auto : x.settle.mode = .auto) :
    x.settle.integrator = if x.mode = .fault ∧ x.pendingMode = none then 0 else x.integrator := by
  cases pending : x.pendingMode with
  | some c =>
    rw [Zone.settle_change pending] at auto ⊢
    rw [if_neg (by simp)]
    cases c with
    | off => exact absurd auto (by simp [Zone.change])
    | _ => rfl
  | none =>
    by_cases fault : x.mode = .fault
    · rw [if_pos ⟨fault, rfl⟩]
      by_cases cleared : ∃ f, x.fault = some f ∧ f.clearAccepted = true
      · obtain ⟨f, info, accepted⟩ := cleared
        rw [Zone.settle_cleared pending fault info accepted, Zone.leaveFault]
        split <;> rfl
      · have kept : x.settle.mode = .fault := by
          rw [Zone.settle_fault]
          refine ⟨fault, pending, ?_⟩
          cases info : x.fault with
          | none => simp [Zone.cleared, info]
          | some f => simpa [Zone.cleared, info] using cleared
        rw [auto] at kept
        exact absurd kept (by decide)
    · rw [if_neg (fun h => fault h.1), Zone.settle_keep pending fault, Zone.countManual]
      split
      · split <;> rfl
      · rfl

/-- Settles O30. -/
theorem boundaryControlsAutoZone : Obligations.BoundaryControlsAutoZone := by
  intro s z boundary
  refine ⟨_, exec_frameBoundary boundary, ?_⟩
  intro x y m u e start raw
  obtain ⟨active, setup, mode, setpoint, pending⟩ := s.boundaryWatch_taken z
  have zone : y = _ := (boundary_zone s z).trans (Zone.finish_eq ..)
  rw [zone]
  refine ⟨fun auto keep valid cool => ?_, fun auto valid => ?_⟩
  · have settled : x.settle = x.fresh := by
      rw [Zone.settle_keep keep (by rw [auto]; decide), Zone.countManual]
      simp [Zone.fresh, auto]
    have watched : s.boundaryWatch z = { x.fresh with invalidCount := 0 } := by
      rw [State.boundaryWatch, show (s.zct.zones.get z).settle = x.fresh from settled]
      exact Zone.watch_valid _ (.inl auto) valid cool
    rw [watched]
    exact ⟨auto, rfl⟩
  · have from_ : (s.boundaryWatch z).integrator = start := by
      obtain ⟨-, -, -, -, -, integrator, -⟩ := x.settle.watch_keeps (s.judged z) m s.clock
      refine integrator.trans (Zone.settle_integrator ?_)
      rcases x.settle.watch_cases (s.judged z) m s.clock with e | ⟨n, e⟩ | ⟨cause, e⟩
      · exact (congrArg Zone.mode e).symm.trans auto
      · exact (congrArg Zone.mode e).symm.trans auto
      · exact absurd ((congrArg Zone.mode e).symm.trans auto) (by simp [Zone.enterFault])
    have auto : (s.boundaryWatch z).mode = .auto := auto
    have error : (s.boundaryWatch z).error (s.msq.tc.get z).value = e := by rw [Zone.error, setpoint]
    have rawDemand : (s.boundaryWatch z).rawDemand m = raw := by
      rw [Zone.rawDemand, show (s.boundaryWatch z).error m = e from error, from_, active]
    obtain ⟨held, saturated⟩ := Zone.demand_auto (w := s.boundaryWatch z) m auto valid
    rw [rawDemand] at held saturated
    refine ⟨held, saturated, ?_⟩
    simp only [auto, valid, true_and, from_, error, active]
    rfl
end Sys2Proof.Machine
end

section
/-! PROOFS. The fault watch over a whole boundary, with its notices (R18 to R22, R26). -/

namespace Sys2Proof.Machine

/-! ### ZONE_FAULT -/

/-- Examining a held close sets at most one notice, so fewer than 32 newest ones are still there after it (R110, R171). -/
theorem suffix_mem_reexamine {s : State} {l : List Notice} {n : Notice} (newest : l <:+ s.ports.press.notices)
    (room : l.length < Config.noticeRoom) (mem : n ∈ l) : n ∈ (reexamine s).ports.press.notices := by
  have joined (q : PortState) (b : Notice) (hq : l <:+ q.notices) : n ∈ (q.join b).notices :=
    (q.join_suffix b hq room).subset (by simp [mem])
  rcases reexamine_cases s with e | ⟨h, a, why, held, -, e⟩ | ⟨h, sh, -, -, -, assembling, e⟩
  · rw [e]; exact newest.subset mem
  · rw [e, endClose_some why held]; exact joined _ _ newest
  · rw [e, grantClose, assembling]; exact joined _ _ newest

/-- A boundary sets at most thirteen notices at the press port (R21, R46). -/
theorem State.boundaryBodies_length (s : State) :
    (s.faultingZones.map (fun z => NoticeBody.zoneFault z.val) ++ s.throttleTold).length ≤ 13 := by
  have faults : s.faultingZones.length ≤ 12 := (List.length_filter_le ..).trans (by simp)
  have throttle : s.throttleTold.length ≤ 1 := by unfold State.throttleTold; split <;> simp
  rw [List.length_append, List.length_map]
  omega

/-- A zone that enters FAULT at a boundary is told at the press port (R21). -/
theorem zoneFault_told {s : State} {z : Fin 12} (enters : z ∈ s.faultingZones) :
    ⟨.zoneFault z.val, s.clock⟩ ∈ (frameBoundary s).ports.press.notices := by
  have short := s.boundaryBodies_length
  have newest := State.told_suffix .press _ s (short.trans (by decide))
  have mem : (⟨.zoneFault z.val, s.clock⟩ : Notice) ∈
      (s.faultingZones.map (fun z => NoticeBody.zoneFault z.val) ++ s.throttleTold).map (⟨·, s.clock⟩) := by
    simp only [List.map_append, List.map_map, List.mem_append]
    exact .inl (List.mem_map.mpr ⟨z, enters, rfl⟩)
  rw [frameBoundary_eq]
  split
  · exact suffix_mem_reexamine (s := s.boundaryLoaded) newest (by rw [List.length_map]; exact short.trans_lt (by decide)) mem
  · exact newest.subset mem

theorem State.mem_faultingZones {s : State} {z : Fin 12} : z ∈ s.powered.faultingZones ↔
    (s.zct.zones.get z).settle.mode ≠ .fault ∧ (s.boundaryWatch z).mode = .fault := by
  simp [State.faultingZones, State.boundaryWatch]

/-! ### A watched zone after the boundary -/

section
variable {s : State} {z : Fin 12} {w : Zone}

/-- A zone `y` after a boundary runs on as its first stages left it, `w`, with the invalid count given (R21). -/
def Zone.RunsOn (y w : Zone) (count : Nat) : Prop :=
  y.mode = w.mode ∧ y.frames = w.frames ∧ y.fault = w.fault ∧ y.invalidCount = count

/-- Zone `z` is in FAULT after a boundary from `s`, with its pre-fault mode and the cause, and is told so (R21). -/
def State.FaultsAt (s : State) (z : Fin 12) (pre : PreFault) (cause : FaultCause) (t : State) : Prop :=
  let y := t.zct.zones.get z
  y.mode = .fault ∧ y.invalidCount = 0 ∧
    y.fault = some { preFault := pre, cause := cause, since := s.clock, clearAccepted := false } ∧
    ⟨.zoneFault z.val, s.clock⟩ ∈ t.ports.press.notices

/-- The boundary of a pulse after the watch has left the zone running (R18, R21). -/
theorem boundary_runsOn {count : Nat} (watched : s.boundaryWatch z = { w with invalidCount := count }) :
    ((frameBoundary s.powered).zct.zones.get z).RunsOn w count := by
  rw [boundary_zone, Zone.finish_eq, watched]
  exact ⟨rfl, rfl, rfl, rfl⟩

/-- The boundary of a pulse after the watch has put the zone into FAULT (R18, R21). -/
theorem boundary_faultsAt {cause : FaultCause} (settled : (s.zct.zones.get z).settle = w) (working : w.mode ≠ .fault)
    (watched : s.boundaryWatch z = w.enterFault cause s.clock) : s.FaultsAt z w.preFault cause (frameBoundary s.powered) := by
  have told : z ∈ s.powered.faultingZones := State.mem_faultingZones.mpr ⟨settled ▸ working, by rw [watched]; rfl⟩
  refine ⟨?_, ?_, ?_, s.powered_clock ▸ zoneFault_told told⟩ <;> rw [boundary_zone, Zone.finish_eq, watched] <;> rfl

variable (settled : (s.zct.zones.get z).settle = w) (working : w.mode = .auto ∨ w.mode = .manual)
include settled working

theorem boundary_valid (valid : s.judged z = .ok)
    (cool : (s.msq.tc.get z).value ≤ ((s.zct.zones.get z).pendingSetup.getD (s.zct.zones.get z).active).trip) :
    ((frameBoundary s.powered).zct.zones.get z).RunsOn w 0 := by
  have active := settled ▸ (s.zct.zones.get z).settle_taken.1
  exact boundary_runsOn (by rw [State.boundaryWatch, settled]; exact Zone.watch_valid _ working valid (active ▸ cool))

theorem boundary_first (invalid : s.judged z ≠ .ok) (new : w.invalidCount = 0) :
    ((frameBoundary s.powered).zct.zones.get z).RunsOn w 1 :=
  boundary_runsOn (by rw [State.boundaryWatch, settled, Zone.watch_invalid _ working invalid, if_pos new])

theorem boundary_second (invalid : s.judged z ≠ .ok) (again : w.invalidCount ≠ 0) :
    s.FaultsAt z w.preFault (.invalid (s.judged z)) (frameBoundary s.powered) :=
  boundary_faultsAt settled (by rcases working with h | h <;> rw [h] <;> decide)
    (by rw [State.boundaryWatch, settled, Zone.watch_invalid _ working invalid, if_neg again])

theorem boundary_hot (valid : s.judged z = .ok)
    (hot : (((s.zct.zones.get z).pendingSetup.getD (s.zct.zones.get z).active).trip : Int) < (s.msq.tc.get z).value) :
    s.FaultsAt z w.preFault (.overTrip (s.msq.tc.get z).value) (frameBoundary s.powered) := by
  have active := settled ▸ (s.zct.zones.get z).settle_taken.1
  exact boundary_faultsAt settled (by rcases working with h | h <;> rw [h] <;> decide)
    (by rw [State.boundaryWatch, settled]; exact Zone.watch_hot _ working valid (active ▸ hot))

omit working

/-- A watched zone keeps its mode or enters FAULT, and keeps its manual demand (R21). -/
theorem boundary_mode_or :
    let y := (frameBoundary s.powered).zct.zones.get z
    (y.mode = w.mode ∨ y.mode = .fault) ∧ y.manualDemand = w.manualDemand := by
  have watch : s.boundaryWatch z = w.watch (s.judged z) (s.msq.tc.get z).value s.clock := by
    rw [State.boundaryWatch, settled]
  rw [boundary_zone, Zone.finish_eq, watch]
  rcases w.watch_cases (s.judged z) (s.msq.tc.get z).value s.clock with e | ⟨n, e⟩ | ⟨cause, e⟩ <;> rw [e]
  · exact ⟨.inl rfl, rfl⟩
  · exact ⟨.inl rfl, rfl⟩
  · exact ⟨.inr rfl, rfl⟩

/-- The integrator after a boundary: an AUTO zone with a valid measurement moves it, any other keeps it (R26). -/
theorem boundary_integrator :
    let t := frameBoundary s.powered
    let x := s.zct.zones.get z
    let y := t.zct.zones.get z
    let u := x.pendingSetup.getD x.active
    let e := max (-5000) (min 5000 ((x.pendingSetpoint : Int) - (s.msq.tc.get z).value))
    (y.mode = .auto → s.judged z = .ok → y.integrator =
      if y.saturated = false ∧ (t.hbo.shares.get z).cut = false
        then max (-200) (min 1000 (w.integrator + (e * u.gain).tdiv 1000)) else w.integrator) ∧
      (y.mode ≠ .auto ∨ s.judged z ≠ .ok → y.integrator = w.integrator) := by
  intro t x y u e
  obtain ⟨active, -, -, setpoint, -⟩ := s.boundaryWatch_taken z
  obtain ⟨-, -, -, -, -, integrator, -⟩ := x.settle.watch_keeps (s.judged z) (s.msq.tc.get z).value s.clock
  have from_ : (s.boundaryWatch z).integrator = w.integrator := settled ▸ integrator
  have error : (s.boundaryWatch z).error (s.msq.tc.get z).value = e := by rw [Zone.error, setpoint]
  have zone : y = _ := (boundary_zone s z).trans (Zone.finish_eq ..)
  rw [zone]
  refine ⟨fun auto valid => ?_, fun still => ?_⟩
  · have auto : (s.boundaryWatch z).mode = .auto := auto
    simp only [auto, valid, true_and, from_, error, active]
    rfl
  · have still : (s.boundaryWatch z).mode ≠ .auto ∨ s.judged z ≠ .ok := still
    refine (if_neg fun moves => ?_).trans from_
    obtain ⟨auto, valid, -⟩ := moves
    rcases still with h | h
    · exact h auto
    · exact h valid

end

/-! ### The mode in which a zone is watched -/

/-- Zone `y` is in the mode that a pre-fault mode names (R14). -/
def Zone.Runs (y : Zone) (pre : PreFault) : Prop :=
  (pre = .auto → y.mode = .auto ∧ y.frames = none) ∧ ∀ n, pre = .manual n → y.mode = .manual ∧ y.frames = some n

theorem Zone.runs_auto {w : Zone} : w.Runs .auto ↔ w.mode = .auto ∧ w.frames = none := by
  simp [Zone.Runs]

theorem Zone.runs_manual {w : Zone} {n : Frames} : w.Runs (.manual n) ↔ w.mode = .manual ∧ w.frames = some n := by
  simp [Zone.Runs]

theorem Zone.Runs.working {w : Zone} {pre : PreFault} (h : w.Runs pre) : w.mode = .auto ∨ w.mode = .manual := by
  cases pre with
  | auto => exact .inl (Zone.runs_auto.mp h).1
  | manual n => exact .inr (Zone.runs_manual.mp h).1

theorem Zone.Runs.preFault {w : Zone} {pre : PreFault} (h : w.Runs pre) : w.preFault = pre := by
  cases pre with
  | auto => simp [Zone.preFault, Zone.runs_auto.mp h]
  | manual n => simp [Zone.preFault, Zone.runs_manual.mp h]

/-- Running on keeps the mode (R21). -/
theorem Zone.RunsOn.runs {y w : Zone} {count : Nat} {pre : PreFault} (on : y.RunsOn w count) (h : w.Runs pre) : y.Runs pre := by
  obtain ⟨mode, frames, -, -⟩ := on
  unfold Zone.Runs at *
  rwa [mode, frames]

/-- The four outcomes of the watch of a zone whose first stages leave it running (R21). -/
theorem boundary_watched {s : State} {z : Fin 12} {w : Zone} {pre : PreFault} (settled : (s.zct.zones.get z).settle = w)
    (runs : w.Runs pre) :
    let t := frameBoundary s.powered
    let y := t.zct.zones.get z
    let m := (s.msq.tc.get z).value
    let trip := ((s.zct.zones.get z).pendingSetup.getD (s.zct.zones.get z).active).trip
    (s.judged z = .ok ∧ m ≤ trip → y.Runs pre ∧ y.invalidCount = 0) ∧
    (s.judged z ≠ .ok → w.invalidCount = 0 → y.Runs pre ∧ y.invalidCount = 1) ∧
    (s.judged z ≠ .ok → w.invalidCount ≠ 0 → s.FaultsAt z pre (.invalid (s.judged z)) t) ∧
    (s.judged z = .ok ∧ (trip : Int) < m → s.FaultsAt z pre (.overTrip m) t) := by
  refine ⟨fun ⟨valid, cool⟩ => ?_, fun invalid new => ?_, fun invalid again => ?_, fun ⟨valid, hot⟩ => ?_⟩
  · have on := boundary_valid settled runs.working valid cool
    exact ⟨on.runs runs, on.2.2.2⟩
  · have on := boundary_first settled runs.working invalid new
    exact ⟨on.runs runs, on.2.2.2⟩
  · exact runs.preFault ▸ boundary_second settled runs.working invalid again
  · exact runs.preFault ▸ boundary_hot settled runs.working valid hot

/-- What the first stages make of a zone in AUTO or in a continuous MANUAL with nothing pending: only its setup and setpoint
are taken (R18, R20). -/
theorem Zone.settle_running {x : Zone} (pending : x.pendingMode = none)
    (running : x.mode = .auto ∨ (x.mode = .manual ∧ x.frames = some .continuous)) : x.settle = x.fresh := by
  rcases running with auto | ⟨manual, frames⟩
  · rw [Zone.settle_keep pending (by rw [auto]; decide), Zone.countManual]
    simp [Zone.fresh, auto]
  · rw [Zone.settle_keep pending (by rw [manual]; decide), Zone.countManual]
    simp [Zone.fresh, manual, frames]

/-- The manual count steps at a boundary with nothing pending, and ends in AUTO (R20). -/
theorem Zone.settle_counted {x : Zone} {n : Nat} (pending : x.pendingMode = none) (manual : x.mode = .manual)
    (frames : x.frames = some (.left n)) : x.settle = if n ≤ 1 then { x.fresh with mode := .auto, frames := none }
      else { x.fresh with frames := some (.left (n - 1)) } := by
  rw [Zone.settle_keep pending (by rw [manual]; decide), Zone.countManual]
  simp [Zone.fresh, manual, frames, pending]

theorem Zone.leaveFault_runs (x : Zone) (f : FaultInfo) :
    (x.leaveFault f).Runs f.preFault ∧ (x.leaveFault f).fault = none ∧ (x.leaveFault f).integrator = 0 ∧
      (x.leaveFault f).invalidCount = x.invalidCount := by
  unfold Zone.leaveFault
  split <;> rename_i h <;> rw [h]
  · exact ⟨Zone.runs_auto.mpr ⟨rfl, rfl⟩, rfl, rfl, rfl⟩
  · exact ⟨Zone.runs_manual.mpr ⟨rfl, rfl⟩, rfl, rfl, rfl⟩

/-- The mode in which a counted MANUAL zone goes on: the count one less, or AUTO at its end (R20). -/
theorem Zone.settle_counted_runs {x : Zone} {n : Nat} (pending : x.pendingMode = none) (manual : x.mode = .manual)
    (frames : x.frames = some (.left n)) :
    x.settle.Runs (if 2 ≤ n then .manual (.left (n - 1)) else .auto) ∧ x.settle.invalidCount = x.invalidCount := by
  rw [Zone.settle_counted pending manual frames]
  by_cases many : 2 ≤ n
  · rw [if_pos many, if_neg (by omega)]
    exact ⟨Zone.runs_manual.mpr ⟨manual, rfl⟩, rfl⟩
  · rw [if_neg many, if_pos (by omega)]
    exact ⟨Zone.runs_auto.mpr ⟨rfl, rfl⟩, rfl⟩

/-- Settles O31. -/
theorem boundaryWatchesForFaults : Obligations.BoundaryWatchesForFaults := by
  intro s z boundary
  refine ⟨_, exec_frameBoundary boundary, ?_⟩
  intro x y j m u running valid hot e moved present counted runs faults
  refine ⟨fun pending => ?_, fun pending => ?_, fun d n pending => ?_, fun pending => ?_⟩
  · have settled : x.settle = { x.fresh.change .off with pendingMode := none } := Zone.settle_change pending
    have watched : s.boundaryWatch z = { x.fresh.change .off with pendingMode := none } := by
      rw [State.boundaryWatch, show (s.zct.zones.get z).settle = _ from settled]
      exact Zone.watch_idle _ (.inl rfl)
    obtain ⟨mode, frames, -, count⟩ := boundary_runsOn (w := { x.fresh.change .off with pendingMode := none }) (count := 0) watched
    refine ⟨mode, frames, ?_, count⟩
    exact (boundary_integrator settled).2 (.inl (by rw [mode]; simp [Zone.change]))
  · have settled : x.settle = { x.fresh.change .auto with pendingMode := none } := Zone.settle_change pending
    obtain ⟨running', first, second, over_⟩ := boundary_watched settled (Zone.runs_auto.mpr ⟨rfl, rfl⟩)
    obtain ⟨moves, keeps⟩ := boundary_integrator settled
    refine ⟨fun h => ?_, fun bad new => ?_, fun bad again => ?_, fun h => ?_⟩
    · obtain ⟨runs', count⟩ := running' h
      exact ⟨runs', count, moves (Zone.runs_auto.mp runs').1 h.1⟩
    · obtain ⟨runs', count⟩ := first bad new
      exact ⟨runs', count, keeps (.inr bad)⟩
    · exact ⟨second bad again, keeps (.inr bad)⟩
    · have fault := over_ h
      exact ⟨fault, keeps (.inl (by rw [fault.1]; decide))⟩
  · have settled : x.settle = { x.fresh.change (.manual d n) with pendingMode := none } := Zone.settle_change pending
    obtain ⟨running', first, second, over_⟩ := boundary_watched settled (Zone.runs_manual.mpr ⟨rfl, rfl⟩)
    obtain ⟨mode, demand⟩ := boundary_mode_or settled
    refine ⟨demand, (boundary_integrator settled).2 (.inl ?_), running', first, second, over_⟩
    rcases mode with h | h <;> rw [h] <;> simp [Zone.change]
  · have working : running → x.fresh.mode = .auto ∨ x.fresh.mode = .manual := Or.imp id And.left
    have before : running → x.fresh.preFault = present := by
      rintro (auto | ⟨manual, frames⟩)
      · simp [Zone.preFault, Zone.fresh, present, auto]
      · simp [Zone.preFault, Zone.fresh, present, manual, frames]
    refine ⟨fun run bad new => ?_, fun run bad again => ?_, fun run h => ?_, fun run h => ?_, fun manual h n frames => ?_,
      fun manual n frames some_ => ?_, fun fault h f info accepted => ?_, fun fault f info accepted => ?_,
      fun fault f info kept => ?_, fun off => ?_⟩
    · have on := boundary_first (Zone.settle_running pending run) (working run) bad new
      exact ⟨on.1, on.2.2.2⟩
    · have fault := boundary_second (Zone.settle_running pending run) (working run) bad again
      rw [before run] at fault
      exact ⟨fault, (boundary_integrator (Zone.settle_running pending run)).2 (.inr bad)⟩
    · have fault := boundary_hot (Zone.settle_running pending run) (working run) h.1 h.2
      rwa [before run] at fault
    · have on := boundary_valid (Zone.settle_running pending run) (working run) h.1 h.2
      exact ⟨on.1, on.2.2.2⟩
    · obtain ⟨runs', -⟩ := Zone.settle_counted_runs pending manual frames
      obtain ⟨running', -⟩ := boundary_watched rfl runs'
      obtain ⟨on, -⟩ := running' h
      refine ⟨fun many => ?_, fun last => ?_⟩
      · rw [if_pos many] at on
        exact Zone.runs_manual.mp on
      · rw [if_neg (by omega)] at on
        exact Zone.runs_auto.mp on
    · obtain ⟨runs', count⟩ := Zone.settle_counted_runs pending manual frames
      obtain ⟨-, first, second, over_⟩ := boundary_watched rfl runs'
      exact ⟨fun bad new => first bad (count.trans new), fun bad again => second bad (fun h => again (count.symm.trans h)), over_⟩
    · have settled : x.settle = x.fresh.leaveFault f := Zone.settle_cleared pending fault info accepted
      obtain ⟨runs', clear, zero, -⟩ := x.fresh.leaveFault_runs f
      obtain ⟨moves, keeps⟩ := boundary_integrator settled
      have on := boundary_valid settled runs'.working h.1 h.2
      have on' := on.runs runs'
      refine ⟨on.2.2.1.trans clear, fun auto => ?_, fun n manual => ?_⟩
      · have mode := (on'.1 auto).1
        exact ⟨mode, (moves mode h.1).trans (by rw [zero])⟩
      · obtain ⟨mode, frames⟩ := on'.2 n manual
        exact ⟨mode, frames, (keeps (.inl (by rw [mode]; decide))).trans zero⟩
    · have settled : x.settle = x.fresh.leaveFault f := Zone.settle_cleared pending fault info accepted
      obtain ⟨runs', clear, zero, count⟩ := x.fresh.leaveFault_runs f
      obtain ⟨-, keeps⟩ := boundary_integrator settled
      refine ⟨fun bad new => ?_, fun h => ?_⟩
      · have on := boundary_first settled runs'.working bad (count.trans new)
        exact ⟨on.2.2.1.trans clear, on.runs runs', on.2.2.2, (keeps (.inr bad)).trans zero⟩
      · obtain ⟨-, -, -, over_⟩ := boundary_watched settled runs'
        have fault' := over_ h
        exact ⟨fault', (keeps (.inl (by rw [fault'.1]; decide))).trans zero⟩
    · have settled : x.settle = x.fresh := Zone.settle_stuck pending fault (by simp [Zone.cleared, info, kept])
      have watched : s.boundaryWatch z = { x.fresh with invalidCount := x.invalidCount } := by
        rw [State.boundaryWatch, show (s.zct.zones.get z).settle = _ from settled]
        exact Zone.watch_idle _ (.inr fault)
      obtain ⟨mode, -, same, -⟩ := boundary_runsOn watched
      exact ⟨mode.trans fault, same⟩
    · have settled : x.settle = x.fresh := by
        rw [Zone.settle_keep pending (by rw [off]; decide), Zone.countManual]
        simp [Zone.fresh, off]
      have watched : s.boundaryWatch z = { x.fresh with invalidCount := x.invalidCount } := by
        rw [State.boundaryWatch, show (s.zct.zones.get z).settle = _ from settled]
        exact Zone.watch_idle _ (.inl off)
      obtain ⟨mode, -, -, count⟩ := boundary_runsOn watched
      exact ⟨mode.trans off, count⟩

end Sys2Proof.Machine
end

section
/-! PROOFS. What a frame boundary loads, and the half-cycles between boundaries (R36, R39 to R51). -/

namespace Sys2Proof.Machine

/-- A critical zone, as the statements say it (R41). -/
theorem State.mem_criticalZones {s : State} {z : Fin 12} : z ∈ s.criticalZones ↔
    ∃ sh ∈ s.shc.press.toList, sh.phase ∈ [Phase.closing, .bumping, .curing, .cured] ∧
      ∃ rc ∈ s.recipe.toList, ∃ x ∈ sh.enabled, (rc.cavities.get x.1).mask.getLsbD z.val = true := by
  unfold State.criticalZones
  cases s.shc.press with
  | none => simp
  | some sh =>
    have phase : sh.phase.critical = true ↔ sh.phase ∈ [Phase.closing, .bumping, .curing, .cured] := by
      cases sh.phase <;> decide
    have zones : z ∈ s.zonesOf sh ↔
        ∃ rc ∈ s.recipe.toList, ∃ x ∈ sh.enabled, (rc.cavities.get x.1).mask.getLsbD z.val = true := by
      unfold State.zonesOf
      cases s.recipe <;> simp
    by_cases critical : sh.phase.critical = true
    · simp only [critical, if_true, zones, Option.toList_some, List.mem_singleton, exists_eq_left, phase.mp critical, true_and]
    · simp only [critical, if_false, Option.toList_some, List.mem_singleton, exists_eq_left, List.not_mem_nil,
        mt phase.mpr critical, false_and, Bool.false_eq_true]

/-! ### The classes' allotments -/

/-- A class's turn before any class is cut (R42). -/
theorem allotClass_uncut (rc a : Nat) : allotClass rc a false =
    if rc ≤ a then (.full, a - rc, false) else (.scaled (a * 4096 / rc), 0, true) := by
  unfold allotClass
  by_cases none : rc = 0
  · simp [none]
  · simp [none]

/-- A class's turn after one is cut (R42). -/
theorem allotClass_after_cut (rc a : Nat) : allotClass rc a true = (.nothing, a, true) := by
  simp [allotClass]

/-- What the three classes are granted of their demands, one after another (R42). -/
theorem allotAll_grants (b r0 r1 r2 d : Nat) :
    let a := allotAll b r0 r1 r2
    a.1.grant d = (if r0 ≤ b then d else d * (b * 4096 / r0) / 4096) ∧
      a.2.1.grant d = (if b < r0 then 0 else if r1 ≤ b - r0 then d else d * ((b - r0) * 4096 / r1) / 4096) ∧
      a.2.2.grant d = (if b < r0 + r1 then 0
        else if r2 ≤ b - r0 - r1 then d else d * ((b - r0 - r1) * 4096 / r2) / 4096) := by
  simp only [allotAll, allotClass_uncut]
  by_cases first : r0 ≤ b
  · by_cases second : r1 ≤ b - r0
    · by_cases third : r2 ≤ b - r0 - r1
      · simp [first, second, third, allotClass_uncut, Allotment.grant, first.not_gt, show ¬ b < r0 + r1 by omega]
      · simp [first, second, third, allotClass_uncut, Allotment.grant, first.not_gt, show ¬ b < r0 + r1 by omega]
    · simp [first, second, allotClass_uncut, allotClass_after_cut, Allotment.grant, first.not_gt, show b < r0 + r1 by omega]
  · simp [first, allotClass_after_cut, Allotment.grant, show b < r0 by omega, show b < r0 + r1 by omega]

@[simp] theorem State.powered_shc (s : State) : s.powered.shc = s.shc := by
  unfold State.powered; split <;> rfl

/-- The classes of a boundary are those of the state before it (R41). -/
theorem State.powered_rankOf (s : State) : s.powered.rankOf = s.rankOf := by
  funext z
  simp [State.rankOf, State.criticalZones, State.zonesOf, State.recipe]

/-- The class of a zone, in the words of the statements (R41). -/
theorem State.rankOf_spec (s : State) (z : Fin 12) :
    (s.rankOf z = 0 ↔ z ∈ s.criticalZones) ∧
      (z ∉ s.criticalZones → (s.rankOf z = 1 ↔ s.zct.heatMode = .production)) := by
  unfold State.rankOf
  by_cases critical : z ∈ s.criticalZones
  · simp [critical]
  · cases s.zct.heatMode <;> simp [critical]

/-- The integrator stage keeps the demand (R18). -/
theorem State.finalZones_demand (s : State) (z : Fin 12) :
    (s.finalZones.get z).demand = (s.boundaryZones.get z).demand := by
  simp only [State.finalZones, Table.get_mapIdx, Zone.integrate_eq]

/-- A zone's grant in its share (R42). -/
theorem State.boundaryShare_grant (s : State) (z : Fin 12) : (s.boundaryShare z).grant =
    (allotmentOf (allotAll s.effectiveBudget
      (classSum s.rankOf (fun z => (s.boundaryZones.get z).request) 0)
      (classSum s.rankOf (fun z => (s.boundaryZones.get z).request) 1)
      (classSum s.rankOf (fun z => (s.boundaryZones.get z).request) 2)) (s.rankOf z)).grant
        (s.boundaryZones.get z).demand := rfl

/-- Settles O35. -/
theorem allocationGoesByClass : Obligations.AllocationGoesByClass := by
  intro s boundary
  refine ⟨_, exec_frameBoundary boundary, ?_⟩
  intro b r z h d
  have share : h = s.powered.boundaryShare z := by
    simp only [h, frameBoundary_hbo_eq, State.boundaryHbo, Table.get_ofFn]
  have sums : ∀ c, r c = classSum s.powered.rankOf (fun z => (s.powered.boundaryZones.get z).request) c := by
    intro c
    simp only [r, frameBoundary_hbo_eq, State.boundaryHbo, Table.get_ofFn]
    rfl
  have budget : b = s.powered.effectiveBudget := by
    simp only [b, frameBoundary_hbo_eq, State.boundaryHbo]
  have demand : d = (s.powered.boundaryZones.get z).demand := by
    simp only [d, frameBoundary_zones, State.finalZones_demand]
  have rank : h.rank = s.rankOf z := by rw [share, ← State.powered_rankOf]; rfl
  have grant : h.grant = (allotmentOf (allotAll b (r 0) (r 1) (r 2)) h.rank).grant d := by
    rw [rank, ← State.powered_rankOf, share, budget, demand, sums, sums, sums, State.boundaryShare_grant]
  obtain ⟨critical, production⟩ := s.rankOf_spec z
  rw [← rank, State.mem_criticalZones] at critical
  rw [← rank, State.mem_criticalZones] at production
  obtain ⟨first, second, third⟩ := allotAll_grants b (r 0) (r 1) (r 2) d
  refine ⟨critical, production, rank ▸ s.rankOf_lt z, fun zero => ?_, fun one => ?_, fun two => ?_⟩
  · rw [grant, zero]; exact first
  · rw [grant, one]; exact second
  · rw [grant, two]; exact third

/-! ### The whole boundary -/

/-- Before its boundary a pulse has at most the return of the mains to tell (R51). -/
theorem State.powered_eq (s : State) : s.powered = { s with
    hbo := { s.hbo with mains := .present }
    ports := { s.ports with
      press := (s.told .press (if s.hbo.mains = .lost then [.mains .present] else [])).ports.press } } := by
  unfold State.powered
  by_cases lost : s.hbo.mains = .lost
  · rw [if_pos lost, if_pos lost]; rfl
  · have present : s.hbo.mains = .present := by cases h : s.hbo.mains <;> simp_all
    have same : ({ s.hbo with mains := .present } : Hbo) = s.hbo := by rw [← present]
    rw [if_neg lost, if_neg lost, same]; rfl

/-- The notices of a pulse that is a boundary, at the press port: MAINS first, then the boundary's own (R21, R46, R51). -/
theorem State.powered_told_press (s : State) (bs : List NoticeBody) : (s.powered.told .press bs).ports.press =
    (s.told .press ((if s.hbo.mains = .lost then [.mains .present] else []) ++ bs)).ports.press := by
  rw [State.told_append]
  exact State.told_get_congr .press bs (by rw [State.powered_eq]; rfl) (by rw [State.told_eq]; exact s.powered_clock)

theorem State.powered_told_trace (s : State) (bs : List NoticeBody) : (s.powered.told .trace bs).ports.trace =
    (s.told .trace bs).ports.trace :=
  State.told_get_congr .trace bs s.powered_trace s.powered_clock

/-- An allotment grants nothing of no demand (R42). -/
theorem Allotment.grant_zero (a : Allotment) : a.grant 0 = 0 := by
  cases a <;> simp [Allotment.grant]

/-- A zone's request follows from what its boundary leaves (R40). -/
theorem State.finalZones_request (s : State) (z : Fin 12) : (s.boundaryZones.get z).request =
    if (s.finalZones.get z).mode = .auto ∨ (s.finalZones.get z).mode = .manual
      then ((s.finalZones.get z).demand * (s.finalZones.get z).active.power + 999) / 1000 else 0 := by
  simp only [State.finalZones, Table.get_mapIdx, Zone.integrate_eq, Zone.request]
  cases (s.boundaryZones.get z).mode <;> simp

/-- Settles O32. -/
theorem boundaryLoadsTheFrame : Obligations.BoundaryLoadsTheFrame := by
  intro s boundary
  refine ⟨_, s.powered.boundaryLoaded, exec_frameBoundary boundary, exec_frameBoundary boundary, ?_⟩
  intro throttled marked mains faults throttle
  have hbo := frameBoundary_hbo_eq s.powered
  have told : throttled ↔ s.powered.boundaryThrottle ≠ s.powered.hbo.throttle := by
    rw [s.powered_throttle]; exact Iff.rfl
  have moved : marked ↔ zonesChanged s.powered.zct.zones s.powered.finalZones = true := by
    rw [zonesChanged_iff, s.powered_zct]; exact Iff.rfl
  have examined : throttled ∨ marked → frameBoundary s.powered = reexamine s.powered.boundaryLoaded := fun changed =>
    (frameBoundary_eq s.powered).trans (if_pos (changed.imp told.mp moved.mp))
  have left : ¬ (throttled ∨ marked) → frameBoundary s.powered = s.powered.boundaryLoaded := fun still =>
    (frameBoundary_eq s.powered).trans (if_neg fun h => still (h.imp told.mpr moved.mpr))
  have same : s.powered.hbo = { s.hbo with mains := .present } := by rw [s.powered_eq]
  refine ⟨examined, fun still unmarked => left (not_or.mpr ⟨still, unmarked⟩), fun none => ?_, ?_, ?_, ?_, ?_, ?_, ?_⟩
  · have quiet : reexamine s.powered.boundaryLoaded = s.powered.boundaryLoaded :=
      reexamine_none ((congrArg Shc.heldClose s.powered_shc).trans none)
    by_cases changed : throttled ∨ marked
    · rw [examined changed, quiet]
    · exact left changed
  · by_cases changed : throttled ∨ marked
    · rw [examined changed, reexamine_zct]
    · rw [left changed]
  · exact hbo
  · have faulting : s.powered.faultingZones.map (fun z => NoticeBody.zoneFault z.val) = faults := by
      rw [State.faultingZones_eq, s.powered_zct]; rfl
    have throttling : s.powered.throttleTold = throttle := by
      unfold State.throttleTold
      simp only [← told]
      rfl
    simp only [State.boundaryLoaded, State.powered_told_press, State.powered_told_trace, faulting, throttling]
    rw [s.powered_eq, ← List.append_assoc]
  · rw [State.boundaryLoaded, loadBoundary, s.powered_eq]
  · apply State.eq_of_fields <;> simp [s.powered_eq]
  · rw [hbo]
    have budget : s.powered.effectiveBudget = min s.hbo.baseBudget s.hbo.curtailment := by
      rw [State.effectiveBudget, same]
    have length : s.powered.hbo.requestedLength = s.hbo.requestedLength := by rw [same]
    have base : s.powered.hbo.baseBudget = s.hbo.baseBudget := by rw [same]
    have curtailment : s.powered.hbo.curtailment = s.hbo.curtailment := by rw [same]
    have hysteresis : s.powered.hbo.hysteresis = s.hbo.hysteresis := by rw [same]
    refine ⟨rfl, rfl, length, length, budget, base, curtailment, hysteresis, ?_, fun z => ?_⟩
    · simp only [State.boundaryHbo, Table.get_ofFn]
      rfl
    · simp only [State.boundaryHbo, Table.get_ofFn, frameBoundary_zones]
      refine ⟨s.powered.finalZones_request z, ?_, rfl, rfl, decide_eq_true_iff, fun idle => ?_⟩
      · rw [State.finalZones_demand]
        exact decide_eq_true_iff
      · have none : (s.powered.boundaryZones.get z).demand = 0 := by
          simp only [State.finalZones, State.boundaryZones, Table.get_mapIdx, Zone.integrate_mode] at idle ⊢
          exact Zone.boundary_demand_idle idle
        have grant : (s.powered.boundaryShare z).grant = 0 := by
          rw [State.boundaryShare_grant, none, Allotment.grant_zero]
        refine ⟨grant, ?_⟩
        have onCount : (s.powered.boundaryShare z).onCount =
          onCountOf (s.powered.boundaryShare z).grant s.powered.hbo.requestedLength := rfl
        rw [onCount, grant]
        simp [onCountOf]

/-- Settles O36. -/
theorem halfCyclesAndTheMainsWatch : Obligations.HalfCyclesAndTheMainsWatch := by
  intro s
  refine ⟨fun p present position inside => ?_, fun present => ?_, fun lost => ?_⟩
  · intro after
    have advanced : pulse s = after := by
      simp only [pulse, present, position, inside, if_true]
      rfl
    exact ⟨congrArg _ advanced, congrArg _ advanced⟩
  · have arm : exec .mainsLost s = .next (loseMains s) := rfl
    rw [arm, loseMains, present]
    exact ⟨_, rfl, rfl, PortState.join_notices .., rfl⟩
  · have arm : exec .mainsLost s = .next (loseMains s) := rfl
    rw [arm, loseMains, lost]

end Sys2Proof.Machine
end

section
/-! PROOFS. The requests of a scale: settings, the tare, sessions and captures (R55, R56, R61 to R72). -/

namespace Sys2Proof.Machine

variable {s : State}

/-! ### A request that names a scale -/

theorem onScale_beyond {scale : BitVec 8} (f : Fin 2 → State → State × Answer) (s : State) (beyond : 2 ≤ scale.toNat) :
    onScale scale f s = (s, .bare .badArgument) := by
  rw [onScale, inRange_none scale beyond]

theorem onScale_index (k : Fin 2) (f : Fin 2 → State → State × Answer) (s : State) :
    onScale (BitVec.ofNat 8 k.val) f s = f k s := by
  rw [onScale, inRange_ofNat k (by decide)]

theorem whenIdle_busy {k : Fin 2} (r : State × Answer) (other : (s.scales.get k).state ≠ .idle) :
    whenIdle k s r = (s, .bare .busy) :=
  if_neg other

theorem whenIdle_idle {k : Fin 2} (r : State × Answer) (idle : (s.scales.get k).state = .idle) :
    whenIdle k s r = r :=
  if_pos idle

theorem weighStart_beyond {scale group : BitVec 8} (s : State) (h : 2 ≤ scale.toNat ∨ 4 ≤ group.toNat) :
    weighStart scale group s = (s, .bare .badArgument) := by
  unfold weighStart
  rcases h with h | h
  · rw [inRange_none scale h]
  · rw [inRange_none group h]
    cases inRange 2 scale <;> rfl

theorem weighStart_busy {k : Fin 2} {group : BitVec 8} (low : group.toNat < 4)
    (other : (s.scales.get k).state ≠ .idle) :
    weighStart (BitVec.ofNat 8 k.val) group s = (s, .bare .busy) := by
  unfold weighStart
  rw [inRange_ofNat k (by decide), inRange_eq (k := ⟨group.toNat, low⟩) rfl]
  exact whenIdle_busy _ other

/-- Settles O37. -/
theorem idleScaleTakesItsSettings : Obligations.IdleScaleTakesItsSettings := by
  intro k gain band minPly count timeout validity group s x n
  have gained (scale : BitVec 8) := exec_asked (i := .setGain .charge scale gain) (s := s)
    (owner := onScale scale (setGain gain)) rfl
  have set (scale : BitVec 8) := exec_asked (i := .scaleSetup .charge scale band count timeout minPly validity) (s := s)
    (owner := onScale scale (scaleSetup band count timeout minPly validity)) rfl
  have started (scale : BitVec 8) := exec_asked (i := .weighStart .charge scale group) (s := s)
    (owner := weighStart scale group) rfl
  refine ⟨fun scale beyond => ?_, fun other => ?_, fun idle => ?_⟩
  · rw [gained, set, started, onScale_beyond _ s beyond, onScale_beyond _ s beyond, weighStart_beyond s (.inl beyond)]
    exact ⟨rfl, rfl, rfl⟩
  · rw [gained, set, started, onScale_index, onScale_index, setGain, scaleSetup, whenIdle_busy _ other,
      whenIdle_busy _ other]
    exact ⟨rfl, rfl, fun low => by rw [weighStart_busy low other]⟩
  · rw [gained, set, onScale_index, onScale_index, setGain, scaleSetup, whenIdle_idle _ idle, whenIdle_idle _ idle]
    refine ⟨rfl, ?_⟩
    simp only [clampNat_eq_nearest _ (show 1 ≤ 500 by decide), clampNat_eq_nearest _ (show 4 ≤ 64 by decide),
      clampNat_eq_nearest _ (show 2 ≤ 60 by decide), clampNat_eq_nearest _ (show 10 ≤ 5000 by decide),
      clampNat_eq_nearest _ (show 1 ≤ 240 by decide)]
    rw [setupStatus_of_iff (P := 1 ≤ band.toNat ∧ band.toNat ≤ 500 ∧ 4 ≤ count.toNat ∧ count.toNat ≤ 64 ∧
      2 ≤ timeout.toNat ∧ timeout.toNat ≤ 60 ∧ 10 ≤ minPly.toNat ∧ minPly.toNat ≤ 5000 ∧ 1 ≤ validity.toNat ∧
      validity.toNat ≤ 240)]
    · rfl
    · simp only [Bool.or_eq_true, decide_eq_true_eq, nearest_ne_iff _ (show 1 ≤ 500 by decide),
        nearest_ne_iff _ (show 4 ≤ 64 by decide), nearest_ne_iff _ (show 2 ≤ 60 by decide),
        nearest_ne_iff _ (show 10 ≤ 5000 by decide), nearest_ne_iff _ (show 1 ≤ 240 by decide)]
      omega

/-! ### The tare -/

theorem tareDue_iff {k : Fin 2} {d : Nat} (taring : (s.scales.get k).state = .taring)
    (deadline : (s.scales.get k).deadline = some d) : s.tareDue k = true ↔ d ≤ s.clock := by
  simp [State.tareDue, taring, deadline]

/-- Settles O38. -/
theorem tareStartsAndTimesOut : Obligations.TareStartsAndTimesOut := by
  intro k s x n
  have asked (scale : BitVec 8) := exec_asked (i := .tare .charge scale) (s := s) (owner := onScale scale tare) rfl
  refine ⟨fun scale beyond => ?_, fun other => ?_, fun idle none => ?_, fun idle gain => ?_, fun d taring deadline => ?_,
    fun other => ?_⟩
  · rw [asked, onScale_beyond _ s beyond]
  · rw [asked, onScale_index, tare, whenIdle_busy _ other]
  · rw [asked, onScale_index, tare, whenIdle_idle _ idle, if_pos none]
  · refine ⟨_, _, fitWord_fits _ s, ?_⟩
    rw [asked, onScale_index, tare, whenIdle_idle _ idle, if_neg gain]
    dsimp only
    rw [fitWord_state]
    rfl
  · have arm : exec (.tareTimeout k) s = .next (timeoutTare k s) := rfl
    have due := tareDue_iff taring deadline
    refine ⟨fun early => ?_, fun late => ?_⟩
    · rw [arm, timeoutTare, if_neg (due.not.mpr (by omega))]
    · rw [arm, timeoutTare, if_pos (due.mpr late)]
      rfl
  · have idle : ¬ s.tareDue k = true := by simp [State.tareDue, show (s.scales.get k).state ≠ .taring from other]
    have arm : exec (.tareTimeout k) s = .next (timeoutTare k s) := rfl
    rw [arm, timeoutTare, if_neg idle]

/-! ### The session -/

theorem Recipe.namesGroup_iff (r : Recipe) (g : Fin 4) :
    r.namesGroup g = true ↔ ∃ j : Fin 4, j.val < r.cavityCount ∧ (r.cavities.get j).group = g.val := by
  simp [Recipe.namesGroup]

theorem Scale.stale_iff {x : Scale} {t now : Nat} (tared : x.tareTime = some t) (past : t ≤ now) :
    x.stale now = true ↔ x.validity * 60 < now - t := by
  simp [Scale.stale, tared, elapsed, past]

/-- WEIGH START of an idle scale under a mounted mould, in its order (R65). -/
theorem exec_weighStart {k : Fin 2} {g : Fin 4} {r : Recipe} (idle : (s.scales.get k).state = .idle)
    (mounted : s.recipe = some r) :
    exec (.weighStart .charge (BitVec.ofNat 8 k.val) (BitVec.ofNat 8 g.val)) s =
      if (s.scales.get k).gain = 0 then .next (s.replied .charge (.bare .uncalibrated) s)
      else if (s.scales.get k).stale s.clock = true then .next (s.replied .charge (.bare .tareStale) s)
      else if r.namesGroup g = true then .next (s.replied .charge (.bare .ok) (s.modifyScale k fun x => { x with
        state := .opened, session := some (Session.open r g s.clock) }))
      else .next (s.replied .charge (.bare .badArgument) s) := by
  rw [exec_asked (owner := weighStart (BitVec.ofNat 8 k.val) (BitVec.ofNat 8 g.val)) rfl, weighStart,
    inRange_ofNat k (by decide), inRange_ofNat g (by decide)]
  simp only [whenIdle_idle _ idle, mounted]
  split_ifs <;> rfl

/-- Settles O41. -/
theorem weighStartOpensASession : Obligations.WeighStartOpensASession := by
  intro k g s x request fresh stale named
  refine ⟨fun group beyond => ?_, fun idle bare => ?_, fun r idle mounted => ?_⟩
  · rw [exec_asked (owner := weighStart (BitVec.ofNat 8 k.val) group) rfl, weighStart_beyond s (.inr beyond)]
  · simp only [request]
    rw [exec_asked (owner := weighStart (BitVec.ofNat 8 k.val) (BitVec.ofNat 8 g.val)) rfl, weighStart,
      inRange_ofNat k (by decide), inRange_ofNat g (by decide)]
    simp only [whenIdle_idle _ idle, bare]
  · have answered : request = _ := exec_weighStart idle mounted
    have current (h : fresh) : ¬ (s.scales.get k).stale s.clock = true :=
      h.elim fun t ⟨tared, past, valid⟩ => (Scale.stale_iff tared past).not.mpr (by omega)
    have outdated (h : stale) : (s.scales.get k).stale s.clock = true := by
      cases tared : (s.scales.get k).tareTime with
      | none => rw [Scale.stale, tared]
      | some t => exact (Scale.stale_iff tared (h t tared).1).mpr (h t tared).2
    refine ⟨fun gain => ?_, fun gain h => ?_, fun gain h other => ?_, fun gain h given => ?_⟩
    · rw [answered, if_pos gain]
    · rw [answered, if_neg gain, if_pos (outdated h)]
    · rw [answered, if_neg gain, if_neg (current h), if_neg ((r.namesGroup_iff g).not.mpr other)]
    · rw [answered, if_neg gain, if_neg (current h), if_pos ((r.namesGroup_iff g).mpr given)]
      rfl

/-! ### A capture -/

theorem lotPassed_iff {lot : Nat} : s.lotPassed lot = true ↔ ∃ l, s.lot? lot = some l ∧ l.deadline ≤ s.clock := by
  simp [State.lotPassed, Option.any_eq_true]

/-- The lots after a use that may have stood has ended (R79). -/
theorem releaseLotOpt_lotsAfter (id : Option Nat) (s : State) :
    (releaseLot? id s).ltr.lots = s.lotsAfter [] id s.ltr.lots := by
  cases id with
  | none => simp [releaseLot?, State.lotsAfter]
  | some id => exact releaseLot_lotsAfter id s

theorem releaseLotOpt_eq (id : Option Nat) (s : State) :
    releaseLot? id s = { s with ltr := { s.ltr with lots := s.lotsAfter [] id s.ltr.lots } } := by
  rw [← releaseLotOpt_lotsAfter]
  cases id <;> rfl

/-- The judgement of the lots reads the lots' use and the clock alone (R79). -/
theorem State.lotsAfter_congr {t u : State} (clock : t.clock = u.clock) (scales : t.scales = u.scales) (plies : List Ply)
    (freed : Option Nat) (lots : List Lot) : t.lotsAfter plies freed lots = u.lotsAfter plies freed lots := by
  have use (l : Lot) : t.lotInUse l = u.lotInUse l := lotInUse_congr scales l
  simp only [State.lotsAfter, use, clock]

theorem captureDue_iff {k : Fin 2} {d : Nat} (capturing : (s.scales.get k).state = .capturing)
    (deadline : (s.scales.get k).deadline = some d) : s.captureDue k = true ↔ d ≤ s.clock := by
  simp [State.captureDue, capturing, deadline]

/-- Settles O42. -/
theorem captureStartsAndTimesOut : Obligations.CaptureStartsAndTimesOut := by
  intro k s x request said
  have asked (scale : BitVec 8) := exec_asked (i := .addPly .charge scale) (s := s) (owner := onScale scale addPly) rfl
  have here : request = .next (s.replied .charge (addPly k s).2 (addPly k s).1) := by
    simp only [request]
    rw [asked, onScale_index]
  have arm : exec (.captureTimeout k) s = .next (timeoutCapture k s) := rfl
  refine ⟨fun scale beyond => ?_, fun capturing => ?_, fun closed => ?_, fun e opened session => ?_,
    fun e d capturing session deadline => ?_, fun other => ?_⟩
  · rw [asked, onScale_beyond _ s beyond]
  · simp only [said, here, addPly, show (s.scales.get k).state = .capturing from capturing]
  · rcases closed with closed | closed <;> simp only [said, here, addPly, show (s.scales.get k).state = _ from closed]
  · have open_ : addPly k s = addPlyOpen k e s := by
      simp only [addPly, show (s.scales.get k).state = .opened from opened, show (s.scales.get k).session = some e from session]
    simp only [said, here, open_, addPlyOpen]
    refine ⟨fun none => ?_, fun lot current => ?_⟩
    · rw [none]
    · simp only [show (s.scales.get k).currentLot = some lot from current, ← lotPassed_iff]
      refine ⟨fun passed => ?_, fun live full => ?_, fun live room => ⟨_, _, fitWord_fits _ s, ?_⟩⟩
      · rw [if_pos passed]
      · rw [if_neg live, if_pos full]
      · rw [if_neg live, if_neg (by omega)]
        dsimp only
        rw [fitWord_state]
        rfl
  · have due := captureDue_iff capturing deadline
    simp only [arm, timeoutCapture, show (s.scales.get k).session = some e from session]
    refine ⟨fun early => ?_, fun late => ⟨_, rfl, ?_⟩⟩
    · rw [if_neg (due.not.mpr (by omega))]
    · rw [if_pos (due.mpr late), endCapture, releaseLotOpt_eq]
      exact ⟨rfl, rfl, rfl, rfl⟩
  · have idle : ¬ s.captureDue k = true := by simp [State.captureDue, show (s.scales.get k).state ≠ .capturing from other]
    rw [arm, timeoutCapture]
    split
    · rfl
    · rw [if_neg idle]

end Sys2Proof.Machine
end

section
/-! PROOFS. The end of a session: CLOSE CHARGE into the rack, DISCARD as SCRAP (R73 to R75, R88, R89, R157). -/

namespace Sys2Proof.Machine

variable {s : State}

/-! ### The rack position and the out-deadline -/

theorem lowestFree_eq_none {rack : List RackRecord} (full : ∀ i < 16, ∃ r ∈ rack, r.position = i) :
    lowestFree rack = none := by
  simpa [lowestFree, Config.rackRoom] using full

theorem lowestFree_eq_some {rack : List RackRecord} {n : Nat} (room : n < 16) (free : ∀ r ∈ rack, r.position ≠ n)
    (below : ∀ i < n, ∃ r ∈ rack, r.position = i) : lowestFree rack = some n := by
  simp only [lowestFree, Config.rackRoom, List.find?_range_eq_some]
  exact ⟨by simpa using free, by simpa using room, by simpa using below⟩

/-- A running minimum is the least of its figures (R89). -/
theorem foldl_min_eq {l : List Nat} {a n : Nat} (mem : n = a ∨ n ∈ l) (first : n ≤ a) (rest : ∀ b ∈ l, n ≤ b) :
    l.foldl min a = n := by
  induction l generalizing a with
  | nil => exact (mem.resolve_right (by simp)).symm
  | cons b l ih =>
    have least : n ≤ b := rest b (by simp)
    refine ih ?_ (by omega) fun c h => rest c (by simp [h])
    rcases mem with h | h
    · left; omega
    · rcases List.mem_cons.mp h with h | h
      · left; omega
      · exact .inr h

/-- The notices of a charge entering a rack of so many records, in their order (R88, R89; log entry 17). -/
def entryNotices (records now outDeadline id position : Nat) : List NoticeBody :=
  (if records = 13 then [.rackHigh 14] else []) ++ if now < outDeadline then [] else [.chargeExpired id position none]

/-- The last of the notices set by one event is the port's newest, set now (R171). -/
theorem State.told_newest (p : Port) (bs : List NoticeBody) (b : NoticeBody) (s : State) :
    ((s.told p (bs ++ [b])).ports.get p).notices.getLast? = some ⟨b, s.clock⟩ := by
  rw [State.told_get_self, List.foldl_append]
  exact PortState.join_newest ..

/-- A reply leaves the port's newest notice (R167, R171). -/
theorem State.replied_told_newest (s u : State) (p : Port) (a : Answer) (bs : List NoticeBody) (b : NoticeBody) :
    (s.replied p a { u with ports := (u.told p (bs ++ [b])).ports }).Newest p b := by
  rw [State.Newest, State.replied, State.modifyPort_get_self]
  exact u.told_newest p bs b

theorem entryNotices_early {records now outDeadline id position : Nat} (early : now < outDeadline) :
    entryNotices records now outDeadline id position = if records = 13 then [.rackHigh 14] else [] := by
  rw [entryNotices, if_pos early, List.append_nil]

theorem entryNotices_late {records now outDeadline id position : Nat} (late : outDeadline ≤ now) :
    entryNotices records now outDeadline id position =
      (if records = 13 then [.rackHigh 14] else []) ++ [.chargeExpired id position none] := by
  rw [entryNotices, if_neg (Nat.not_lt.mpr late)]

theorem enterRack_eq (c : Charge) (position : Nat) (s : State) :
    enterRack c position s = State.told
      { s with ltr := { s.ltr with
        rack := s.ltr.rack ++ [⟨c, position, if s.clock < c.outDeadline then .queued else .expired⟩] } }
      .charge (entryNotices s.ltr.rack.length s.clock c.outDeadline c.id position) := by
  simp only [enterRack, entryNotices, List.length_append, List.length_singleton, State.told_append]
  by_cases high : s.ltr.rack.length = 13 <;> by_cases early : s.clock < c.outDeadline <;> simp [high, early, State.told]

/-! ### CLOSE CHARGE -/

/-- What a charge closed into the rack is (R73, R89). -/
theorem closeInto_eq (position : Nat) (k : Fin 2) (e : Session) (s : State) : ∃ d free,
    Fits32 (s.outDeadline (e.plies.map SessionPly.ply) ((s.recipe.map Recipe.outTime).getD 0)) s.freeCount d free ∧
    closeInto position k e s = (State.told
      { s with
        freeCount := free
        scales := s.scales.set k (s.scales.get k).dropSession
        ltr := { s.ltr with rack := s.ltr.rack ++
          [⟨e.toCharge s.clock d, position, if s.clock < d then .queued else .expired⟩] } }
      .charge (entryNotices s.ltr.rack.length s.clock d (e.chargeId.getD 0) position),
      ⟨.ok, be 4 (e.chargeId.getD 0) ++ be 1 position ++ be 1 (if s.clock < d then 0 else 1)⟩) := by
  refine ⟨_, _, fitWord_fits _ s, ?_⟩
  unfold closeInto
  dsimp only
  rw [fitWord_state, enterRack_eq, apply_ite RackState.code]
  rfl

/-- Settles O43. -/
theorem closeChargeFillsTheRack : Obligations.CloseChargeFillsTheRack := by
  intro k s x request said
  have asked (scale : BitVec 8) := exec_asked (i := .closeCharge .charge scale) (s := s)
    (owner := onScale scale closeCharge) rfl
  have here : request = .next (s.replied .charge (closeCharge k s).2 (closeCharge k s).1) := by
    simp only [request]
    rw [asked, onScale_index]
  refine ⟨fun scale beyond => ?_, fun capturing => ?_, fun closed => ?_, fun e opened session => ?_⟩
  · rw [asked, onScale_beyond _ s beyond]
  · simp only [said, here, closeCharge, show (s.scales.get k).state = .capturing from capturing]
  · rcases closed with closed | closed <;> simp only [said, here, closeCharge, show (s.scales.get k).state = _ from closed]
  · have judged : closeCharge k s = closeOpen k e s := by
      simp only [closeCharge, show (s.scales.get k).state = .opened from opened,
        show (s.scales.get k).session = some e from session]
    simp only [said, here, judged]
    have filled (plies : e.plies ≠ []) : ¬ e.plies.isEmpty = true := by simpa using plies
    refine ⟨fun none => ?_, fun plies low => ?_, fun plies high => ?_, fun plies accept full => ?_,
      fun r position plies accept mounted room free below => ?_⟩
    · rw [closeOpen, none]; rfl
    · rw [closeOpen, if_neg (filled plies), low]; rfl
    · rw [closeOpen, if_neg (filled plies), high]; rfl
    · rw [closeOpen, if_neg (filled plies), accept]
      simp only [lowestFree_eq_none full]
    · have closed : closeOpen k e s = closeInto position k e s := by
        rw [closeOpen, if_neg (filled plies), accept]
        simp only [lowestFree_eq_some room free below]
      obtain ⟨d, after, fits, into⟩ := closeInto_eq position k e s
      have least : s.outDeadline (e.plies.map SessionPly.ply) ((s.recipe.map Recipe.outTime).getD 0) =
          (e.plies.filterMap fun p => (s.lot? p.ply.lot).map fun l => l.deadline).foldl min
            (s.clock + r.outTime * 60) := by
        simp only [State.outDeadline, mounted, List.filterMap_map]
        rfl
      rw [closed, into, State.told_eq]
      refine ⟨_, d, _, rfl, fun n mem first rest => ?_, rfl, rfl, rfl, rfl, ?_, ?_, ?_, rfl⟩
      · rw [least, foldl_min_eq mem first rest] at fits
        exact fits
      · intro early count
        rw [entryNotices_early early, if_neg count]
        rfl
      · intro early count
        rw [entryNotices_early early, if_pos count]
        exact PortState.join_newest ..
      · intro late
        rw [entryNotices_late late]
        exact State.replied_told_newest ..

/-! ### DISCARD -/

/-- Lots that a use has left and then the plies of sealed records, as judged throughout in one state (R79, R85). -/
theorem State.lotsAfter_lotsAfter (t : State) (plies : List Ply) (freed : Option Nat) (lots : List Lot) :
    t.lotsAfter plies none (t.lotsAfter [] freed lots) = t.lotsAfter plies freed lots := by
  simp only [State.lotsAfter, List.map_map]
  refine List.map_congr_left fun l _ => ?_
  rcases l with ⟨id, material, deadline, lastScale, lastSeen, refs⟩
  simp only [Function.comp, List.countP_nil, Nat.lt_irrefl, false_or, Nat.sub_zero, State.lotInUse_mk]
  generalize named : plies.countP (fun p => p.lot == id) = n
  generalize placement : ((t.currentScale id).isSome || t.armed id) = placed
  by_cases ended : freed = some id ∧ (decide (0 < refs) || placed) = false
  · obtain ⟨free, out⟩ := ended
    obtain ⟨none, rfl⟩ : refs = 0 ∧ placed = false := by simpa using out
    simp [free, none, named]
  · rw [if_neg ended]
    simp only [named, placement]
    by_cases out : (decide (0 < refs - n) || placed) = false
    · by_cases zero : n = 0
      · have kept : ¬ freed = some id := fun free => ended ⟨free, by simpa [zero] using out⟩
        simp [zero, kept]
      · simp [Nat.pos_of_ne_zero zero]
    · rw [Bool.not_eq_false] at out
      simp only [out]
      simp

theorem scrapNow_below (r : ScrapRecord) (s : State) :
    (scrapNow r s).hrg.below = decide ((scrapNow r s).available < s.hrg.lowMark) := by
  have mark : (readyScraps [s.hrg.nextSeq]
      (lowerRefs r.plies (issue (fun q => .sealed q (.scrap r)) s))).hrg.lowMark = s.hrg.lowMark := by simp [issue]
  rw [scrapNow, compareLow_available, compareLow_hrg, mark]

theorem lowerRefs_ltr (plies : List Ply) (s : State) :
    (lowerRefs plies s).ltr = { s.ltr with lots := (lowerRefs plies s).ltr.lots } := by
  induction plies generalizing s with
  | nil => rfl
  | cons p rest ih => exact ih (lowerRef p.lot s)

theorem scrapNow_ltr (r : ScrapRecord) (s : State) :
    (scrapNow r s).ltr = { s.ltr with lots := (scrapNow r s).lotsAfter r.plies none s.ltr.lots } := by
  have lowered : (scrapNow r s).ltr = (lowerRefs r.plies (issue (fun q => .sealed q (.scrap r)) s)).ltr := by
    simp [scrapNow]
  have kept : (scrapNow r s).ltr = { s.ltr with lots := (scrapNow r s).ltr.lots } := by
    rw [lowered]
    exact lowerRefs_ltr r.plies (issue (fun q => .sealed q (.scrap r)) s)
  rw [kept, scrapNow_lots, State.lotsAfter_congr (scrapNow_clock s r) (scrapNow_scales s r)]

/-- Notices look at the ports and the clock alone (R171). -/
theorem State.told_ports_congr {s t : State} (p : Port) (bs : List NoticeBody) (ports : s.ports = t.ports)
    (clock : s.clock = t.clock) : (s.told p bs).ports = (t.told p bs).ports := by
  induction bs generalizing s t with
  | nil => exact ports
  | cons b bs ih => exact ih (by simp only [setNotice, State.modifyPort, ports, clock]) clock

/-- The notices of an immediate scrap, where the state it begins in differs in the material alone (R154, R157). -/
theorem scrapNow_ports_of {u : State} (r : ScrapRecord) (ports : u.ports = s.ports) (clock : u.clock = s.clock)
    (hrg : u.hrg = s.hrg) : (scrapNow r u).ports = { s.ports with
      press := (s.told .press ((scrapNow r u).newlyLow s.hrg.below)).ports.press
      trace := (s.told .trace ([.scrapRecords [s.hrg.nextSeq]] ++ (scrapNow r u).newlyLow s.hrg.below)).ports.trace } := by
  rw [scrapNow_ports, State.told_ports_congr .press _ ports clock, State.told_ports_congr .trace _ ports clock, ports, hrg]

/-- Settles O44. -/
theorem discardDropsTheSession : Obligations.DiscardDropsTheSession := by
  intro k s x request said
  have asked (scale : BitVec 8) := exec_asked (i := .discard .charge scale) (s := s) (owner := onScale scale discard) rfl
  have here : request = .next (s.replied .charge (discard k s).2 (discard k s).1) := by
    simp only [request]
    rw [asked, onScale_index]
  refine ⟨fun scale beyond => ?_, fun closed => ?_, fun e busy session => ?_⟩
  · rw [asked, onScale_beyond _ s beyond]
  · rcases closed with closed | closed <;> simp only [said, here, discard, show (s.scales.get k).state = _ from closed]
  · have dropped : discard k s = discardSession k e s := by
      rcases busy with busy | busy <;> simp only [discard, show (s.scales.get k).state = _ from busy,
        show (s.scales.get k).session = some e from session]
    have left : abandonSession k e s = { s with
        scales := s.scales.set k (s.scales.get k).dropSession
        ltr := { s.ltr with lots := (abandonSession k e s).lotsAfter [] e.armedLot s.ltr.lots } } := by
      unfold abandonSession
      rw [releaseLotOpt_eq]
      rfl
    simp only [said, here, dropped, discardSession]
    refine ⟨fun none => ?_, fun plies full => ?_, fun plies room => ?_⟩
    · rw [if_pos (by simpa using none)]
      refine ⟨_, rfl, congrArg State.scales left, congrArg State.ltr left, ?_⟩
      rw [left]
    · rw [if_neg (by simpa using plies), full]
      rfl
    · rw [if_neg (by simpa using plies), if_pos room]
      generalize abandonSession k e s = u at left
      have hrg : u.hrg = s.hrg := by rw [left]
      have ports : u.ports = s.ports := by rw [left]
      have clock : u.clock = s.clock := by rw [left]
      have scales : u.scales = s.scales.set k (s.scales.get k).dropSession := by rw [left]
      have ltr : u.ltr = { s.ltr with lots := u.lotsAfter [] e.armedLot s.ltr.lots } := (congrArg State.ltr left :)
      let record := scrapRecord s e.discardCause (e.toCharge 0 0) none none none
      have ring := scrapNow_sealed record u
      have below := scrapNow_below record u
      have lots := scrapNow_ltr record u
      have told := scrapNow_ports_of record ports clock hrg
      have judged := State.lotsAfter_congr (scrapNow_clock u record) (scrapNow_scales u record)
      rw [hrg] at ring below
      rw [ltr] at lots
      dsimp only at lots
      rw [judged, State.lotsAfter_lotsAfter, ← judged] at lots
      refine ⟨_, rfl, ?_, lots, ring, below, told, ?_⟩
      · rw [scrapNow_scales, scales]
        rfl
      · have rest : { u with scales := s.scales, ltr := s.ltr } = s := by rw [left]
        refine Eq.trans ?_ rest
        apply State.eq_of_fields <;> simp [hrg, ports]

end Sys2Proof.Machine
end

section
/-! PROOFS. Lots declared and aged out of the table (R79 to R83). -/

namespace Sys2Proof.Machine

variable {s u : State}

/-! ### A lot made current -/

/-- The lot whose use ends where a scale takes another: the one that was current there (R79, R82). -/
def State.replacedLot (s : State) (k : Fin 2) (lot : Nat) : Option Nat :=
  if s.current k = some lot then none else s.current k

theorem makeCurrent_again {k : Fin 2} {lot : Nat} (h : s.current k = some lot) : makeCurrent k lot s = s :=
  if_pos h

theorem makeCurrent_new {k : Fin 2} {lot : Nat} (new : s.current k ≠ some lot) : makeCurrent k lot s =
    releaseLot? (s.current k) ((if s.migrates k lot then migrate k lot s else s).setCurrentLot k (some lot)) :=
  if_neg new

theorem otherScale_eq {k j : Fin 2} (ne : j ≠ k) : otherScale k = j := by
  revert ne; fin_cases k <;> fin_cases j <;> decide

theorem otherScale_ne (k : Fin 2) : otherScale k ≠ k := by
  revert k; decide

theorem makeCurrent_get_self (k : Fin 2) (lot : Nat) (s : State) :
    (makeCurrent k lot s).scales.get k = { s.scales.get k with currentLot := some lot } := by
  by_cases again : s.current k = some lot
  · rw [makeCurrent_again again, ← again]
    rfl
  · rw [makeCurrent_scales again]
    split <;> simp [State.setCurrentLot, State.modifyScale, migrate, Table.get_modify_ne _ _ (otherScale_ne k).symm]

theorem State.migrates_iff {k j : Fin 2} {lot : Nat} (ne : j ≠ k) :
    s.migrates k lot = true ↔ s.current j = some lot := by
  rw [← otherScale_eq ne]
  exact beq_iff_eq

theorem makeCurrent_get_moved {k j : Fin 2} {lot : Nat} (new : s.current k ≠ some lot) (ne : j ≠ k)
    (held : s.current j = some lot) :
    (makeCurrent k lot s).scales.get j = { s.scales.get j with currentLot := none } := by
  have leaves : s.migrates k lot = true := (State.migrates_iff ne).mpr held
  rw [makeCurrent_scales new, if_pos leaves]
  simp [State.setCurrentLot, State.modifyScale, migrate, otherScale_eq ne, Table.get_modify_ne _ _ ne]

theorem makeCurrent_get_kept {k j : Fin 2} {lot : Nat} (ne : j ≠ k)
    (kept : s.current k = some lot ∨ s.current j ≠ some lot) : (makeCurrent k lot s).scales.get j = s.scales.get j := by
  by_cases again : s.current k = some lot
  · rw [makeCurrent_again again]
  · have stays : ¬ s.migrates k lot = true :=
      (State.migrates_iff ne).not.mpr (kept.resolve_left again)
    rw [makeCurrent_scales again, if_neg stays]
    exact Table.get_modify_ne _ _ ne

theorem makeCurrent_ports_moved {k j : Fin 2} {lot : Nat} (new : s.current k ≠ some lot) (ne : j ≠ k)
    (held : s.current j = some lot) :
    (makeCurrent k lot s).ports = (setNotice .charge (.lotMoved lot j.val k.val) s).ports := by
  have leaves : s.migrates k lot = true := (State.migrates_iff ne).mpr held
  rw [makeCurrent_new new, if_pos leaves, releaseLotOpt_ports, migrate, otherScale_eq ne]
  rfl

theorem makeCurrent_ports_kept {k : Fin 2} {lot : Nat}
    (kept : s.current k = some lot ∨ ∀ j, j ≠ k → s.current j ≠ some lot) : (makeCurrent k lot s).ports = s.ports := by
  by_cases again : s.current k = some lot
  · rw [makeCurrent_again again]
  · have stays : ¬ s.migrates k lot = true :=
      (State.migrates_iff (otherScale_ne k)).not.mpr (kept.resolve_left again _ (otherScale_ne k))
    rw [makeCurrent_new again, if_neg stays, releaseLotOpt_ports]
    rfl

theorem makeCurrent_ltr (k : Fin 2) (lot : Nat) (s : State) : (makeCurrent k lot s).ltr = { s.ltr with
    lots := (makeCurrent k lot s).lotsAfter [] (s.replacedLot k lot) s.ltr.lots } := by
  by_cases again : s.current k = some lot
  · rw [makeCurrent_again again, State.replacedLot, if_pos again]
    simp [State.lotsAfter]
  · rw [makeCurrent_new again, State.replacedLot, if_neg again, releaseLotOpt_eq]
    split <;> rfl

/-! ### DECLARE LOT -/

/-- A declaration takes the lot from the other scale (R82). -/
def State.LotMoves (s : State) (k : Fin 2) (lot : Nat) : Prop :=
  (s.scales.get k).currentLot ≠ some lot ∧ ∃ j, j ≠ k ∧ (s.scales.get j).currentLot = some lot

/-- What every declaration answered OK or CLAMPED does, beside the lot table (R80, R82): the words of the statement. -/
def State.DeclaredOn (s : State) (k : Fin 2) (lot : Nat) (st : Status) (t : State) : Prop :=
  (t.scales.get k = { s.scales.get k with currentLot := some lot }) ∧
    (∀ j, j ≠ k → (s.LotMoves k lot → t.scales.get j = { s.scales.get j with currentLot := none }) ∧
      (¬ s.LotMoves k lot → t.scales.get j = s.scales.get j)) ∧
    (s.LotMoves k lot → ∃ j, j ≠ k ∧ t.ports.charge.notices =
      (setNotice .charge (.lotMoved lot j.val k.val) s).ports.charge.notices) ∧
    (¬ s.LotMoves k lot → t.ports.charge.notices = s.ports.charge.notices) ∧
    t.ports.charge.lastStatus = some st ∧
    { t with scales := s.scales, ltr := s.ltr, ports := s.ports, freeCount := s.freeCount } = s

/-- A lot made current after a change of the lot table alone, with its reply, is declared (R80, R82). -/
theorem declaredOn_makeCurrent {ltr : Ltr} {free : Nat} (k : Fin 2) (lot : Nat) (a : Answer)
    (table : u = { s with ltr := ltr, freeCount := free }) :
    s.DeclaredOn k lot a.status (s.replied .charge a (makeCurrent k lot u)) := by
  have scales : u.scales = s.scales := by rw [table]
  have current (j : Fin 2) : u.current j = s.current j := State.current_of_scales scales j
  have kept (h : ¬ s.LotMoves k lot) : u.current k = some lot ∨ ∀ j, j ≠ k → u.current j ≠ some lot := by
    rw [current]
    by_cases again : s.current k = some lot
    · exact .inl again
    · exact .inr fun j ne held => h ⟨again, j, ne, (current j).symm.trans held⟩
  have two {i j : Fin 2} (hi : i ≠ k) (hj : j ≠ k) : i = j := (otherScale_eq hi).symm.trans (otherScale_eq hj)
  refine ⟨?_, fun j ne => ⟨fun h => ?_, fun h => ?_⟩, fun h => ?_, fun h => ?_, rfl, ?_⟩
  · exact (makeCurrent_get_self k lot u).trans (by rw [scales])
  · obtain ⟨new, i, ni, held⟩ := h
    obtain rfl := two ni ne
    exact (makeCurrent_get_moved (by rw [current]; exact new) ne (by rw [current]; exact held)).trans (by rw [scales])
  · exact (makeCurrent_get_kept ne ((kept h).imp_right fun other => other j ne)).trans (by rw [scales])
  · obtain ⟨new, j, ne, held⟩ := h
    refine ⟨j, ne, ?_⟩
    have told := makeCurrent_ports_moved (s := u) (k := k) (by rw [current]; exact new) ne (by rw [current]; exact held)
    have same : (s.replied .charge a (makeCurrent k lot u)).ports.charge.notices =
      (makeCurrent k lot u).ports.charge.notices := rfl
    rw [same, told, table]
    rfl
  · have same : (s.replied .charge a (makeCurrent k lot u)).ports.charge.notices =
      (makeCurrent k lot u).ports.charge.notices := rfl
    rw [same, makeCurrent_ports_kept (kept h), table]
  · subst table
    apply State.eq_of_fields <;> simp [State.replied]

/-- The entry of a full table out of use seen longest ago, of these the one with the lowest lot ID (R81). -/
theorem oldestSeen_eq {lots : List Lot} {old : Lot} (ascending : lots.Pairwise fun a b => a.id < b.id) (mem : old ∈ lots)
    (oldest : ∀ l ∈ lots, l ≠ old → old.lastSeen < l.lastSeen ∨ (old.lastSeen = l.lastSeen ∧ old.id < l.id)) :
    oldestSeen lots = some old := by
  induction lots with
  | nil => simp at mem
  | cons a rest ih =>
    obtain ⟨least, others⟩ := List.pairwise_cons.mp ascending
    unfold oldestSeen
    rcases List.mem_cons.mp mem with rfl | later
    · cases found : oldestSeen rest with
      | none => rfl
      | some m =>
        have inRest := mem_of_oldestSeen found
        have below := least m inRest
        have differs : m ≠ old := fun e => absurd below (by rw [e]; exact Nat.lt_irrefl _)
        have newer := oldest m (by simp [inRest]) differs
        simp only [if_neg (show ¬ m.lastSeen < old.lastSeen by omega)]
    · have below := least old later
      have differs : a ≠ old := fun e => absurd below (by rw [e]; exact Nat.lt_irrefl _)
      have newer := oldest a (by simp) differs
      rw [ih others later fun l h => oldest l (by simp [h])]
      simp only [if_pos (show old.lastSeen < a.lastSeen by omega)]

theorem roomForLot_of_room (h : s.ltr.lots.length < 32) : s.roomForLot = some s.ltr.lots :=
  if_pos h

theorem roomForLot_of_used (full : Config.lotRoom ≤ s.ltr.lots.length) (used : ∀ l ∈ s.ltr.lots, s.lotInUse l = true) :
    s.roomForLot = none := by
  have none : s.idleLots = [] := by simpa [State.idleLots] using used
  rw [State.roomForLot, if_neg (Nat.not_lt.mpr full), none]
  rfl

theorem roomForLot_of_oldest {old : Lot} (full : Config.lotRoom ≤ s.ltr.lots.length)
    (ascending : s.ltr.lots.Pairwise fun a b => a.id < b.id) (mem : old ∈ s.ltr.lots) (idle : s.lotInUse old = false)
    (oldest : ∀ l ∈ s.ltr.lots, s.lotInUse l = false → l ≠ old →
      old.lastSeen < l.lastSeen ∨ (old.lastSeen = l.lastSeen ∧ old.id < l.id)) :
    s.roomForLot = some (s.ltr.lots.filter fun l => l.id ≠ old.id) := by
  have first : oldestSeen s.idleLots = some old := by
    refine oldestSeen_eq (ascending.sublist List.filter_sublist) ?_ fun l h => ?_
    · simp [State.idleLots, mem, idle]
    · obtain ⟨inTable, out⟩ := List.mem_filter.mp h
      exact oldest l inTable (by simpa using out)
  rw [State.roomForLot, if_neg (Nat.not_lt.mpr full), first]
  rfl

/-- The table change of a declaration goes into the state with its reply (R80, R81). -/
theorem replied_makeCurrent_ltr {ltr : Ltr} {free : Nat} (k : Fin 2) (lot : Nat) (a : Answer)
    (table : u = { s with ltr := ltr, freeCount := free }) :
    let t := s.replied .charge a (makeCurrent k lot u)
    t.ltr = { ltr with lots := t.lotsAfter [] (s.replacedLot k lot) ltr.lots } := by
  subst table
  exact (makeCurrent_ltr k lot { s with ltr := ltr, freeCount := free }).trans rfl

theorem setupStatus_zero (minutes : BitVec 16) :
    setupStatus (minutes.toNat = 0) = if minutes = 0 then .clamped else .ok := by
  unfold setupStatus
  by_cases none : minutes = 0
  · simp [none]
  · have some : minutes.toNat ≠ 0 := fun h => none (BitVec.eq_of_toNat_eq h)
    rw [if_neg none, if_neg (by simpa using some)]

/-- Settles O45. -/
theorem lotsAreDeclaredAndAge : Obligations.LotsAreDeclaredAndAge := by
  intro k lot material minutes s n request said moved current freed
  have here : request = .next (s.replied .charge (declareLot lot material minutes k s).2
      (declareLot lot material minutes k s).1) := by
    simp only [request]
    rw [exec_asked (owner := onScale n (declareLot lot material minutes)) rfl, onScale_index]
  have declares (zero : lot ≠ 0) : declareLot lot material minutes k s =
      declareOn k lot.toNat material.toNat minutes.toNat s := if_neg zero
  have declared {ltr : Ltr} {free : Nat} (fields : List Byte) {u : State}
      (table : u = { s with ltr := ltr, freeCount := free }) :
      current (s.replied .charge ⟨setupStatus (minutes.toNat = 0), fields⟩ (makeCurrent k lot.toNat u)) := by
    have done := declaredOn_makeCurrent k lot.toNat ⟨setupStatus (minutes.toNat = 0), fields⟩ table
    rw [setupStatus_zero] at done ⊢
    exact done
  have learns {room : List Lot} (zero : lot ≠ 0) (unknown : s.lot? lot.toNat = none) (fits : s.roomForLot = some room) :
      ∃ t d, request = .next t ∧ current t ∧
        Fits32 (s.clock + max 1 minutes.toNat * 60) s.freeCount d t.freeCount ∧
        t.ltr = { s.ltr with lots := t.lotsAfter [] freed (insertLot
          ⟨lot.toNat, material.toNat, d, k.val, s.clock, 0⟩ room) } := by
    have table := fitWord_state (s.clock + max 1 minutes.toNat * 60) s
    have fitted := fitWord_fits (s.clock + max 1 minutes.toNat * 60) s
    rw [here, declares zero, declareOn, unknown]
    simp only [fits, learnLot]
    generalize fitWord (s.clock + max 1 minutes.toNat * 60) s = word at table fitted
    have changed : word.2.withLots (insertLot ⟨lot.toNat, material.toNat, word.1, k.val, s.clock, 0⟩ room) = { s with
        ltr := { s.ltr with lots := insertLot ⟨lot.toNat, material.toNat, word.1, k.val, s.clock, 0⟩ room }
        freeCount := word.2.freeCount } := by
      rw [table]
      rfl
    refine ⟨_, word.1, rfl, declared _ changed, ?_, replied_makeCurrent_ltr k lot.toNat _ changed⟩
    have counted : (makeCurrent k lot.toNat (word.2.withLots
        (insertLot ⟨lot.toNat, material.toNat, word.1, k.val, s.clock, 0⟩ room))).freeCount = word.2.freeCount :=
      makeCurrent_freeCount ..
    exact fun fits => ⟨(fitted fits).1, counted.trans (fitted fits).2⟩
  refine ⟨fun zero => ?_, fun l zero known => ?_, fun zero unknown => ⟨fun full used => ?_, fun room => ?_,
    fun old mem full idle oldest ascending => ?_⟩, fun past => ?_⟩
  · simp only [said, here, declareLot, if_pos zero]
  · simp only [said, here, declares zero, declareOn, known]
    refine ⟨fun other => ?_, fun same => ?_⟩
    · rw [if_pos (Ne.symm (Ne.symm other))]
    · rw [if_neg (not_not.mpr same)]
      exact ⟨_, rfl, declared _ rfl, makeCurrent_freeCount .., replied_makeCurrent_ltr k lot.toNat _ rfl⟩
  · simp only [said, here, declares zero, declareOn, unknown]
    simp only [roomForLot_of_used full used]
  · exact learns zero unknown (roomForLot_of_room room)
  · exact learns zero unknown (roomForLot_of_oldest full ascending mem idle oldest)
  · have arm : exec (.lotAged lot) s = .next (ageLot lot.toNat s) := rfl
    have kept : (s.ltr.lots.filter fun l => !(decide (l.id = lot.toNat) && s.lotOld l)) = s.ltr.lots.filter fun l =>
        !(decide (l.id = lot.toNat ∧ s.lotInUse l = false ∧ s.ltr.stepAging * 60 < s.clock - l.lastSeen)) := by
      refine List.filter_congr fun l mem => ?_
      rw [State.lotOld, elapsed, if_pos (past l mem), Bool.decide_and, Bool.decide_and, Bool.decide_eq_false]
    rw [arm, ageLot, kept]
    rfl

end Sys2Proof.Machine
end

section
/-! PROOFS. The rack: waiting charges discarded and expired, charges staged, returned, loaded and removed (R90 to R95, R107,
R108). -/

namespace Sys2Proof.Machine

variable {s : State}

/-! ### DISCARD CHARGE and the out-deadline -/

theorem rackRecord_id {id : Nat} {r : RackRecord} (h : s.rackRecord? id = some r) : r.charge.id = id := by
  simpa using List.find?_some h

theorem expireCharge_quiet {id : Nat} {r : RackRecord} (found : s.rackRecord? id = some r) (quiet : s.expiring r = false) :
    expireCharge id s = s := by
  simp [expireCharge, found, expireRecord, quiet]

theorem expireCharge_due {id : Nat} {r : RackRecord} (found : s.rackRecord? id = some r) (due : s.expiring r = true) :
    expireCharge id s = setNotice .charge (.chargeExpired r.charge.id r.position r.state.cavity)
      (s.modifyRack r.charge.id RackRecord.marked) := by
  simp [expireCharge, found, expireRecord, due]

theorem discardRecord_full (r : RackRecord) (cause : ScrapCause) (full : s.canIssue = false) :
    discardRecord r cause s = (s, .bare .historyFull) := by
  simp [discardRecord, full]

/-- Settles O46. -/
theorem chargesAreDiscardedAndExpire : Obligations.ChargesAreDiscardedAndExpire := by
  intro charge s request
  have arm : exec (.chargeExpired charge) s = .next (expireCharge charge.toNat s) := rfl
  have here : request = .next (s.replied .charge (discardCharge charge s).2 (discardCharge charge s).1) :=
    exec_asked (i := .discardCharge .charge charge) rfl
  refine ⟨fun none => ?_, fun r found => ⟨fun cavity q late staged => ⟨?_, fun due unmarked => ?_, fun marked => ?_⟩,
    fun due queued => ?_, fun h => ?_, fun waiting full => ?_, fun waiting room => ?_⟩⟩
  · rw [here, arm, discardCharge, expireCharge, none]
    exact ⟨rfl, rfl⟩
  · rw [here, discardCharge, found]
    simp only [staged]
  · have now : s.expiring r = true := by simp [State.expiring, due, staged, unmarked]
    rw [arm, expireCharge_due found now, staged]
    rfl
  · have quiet : s.expiring r = false := by simp [State.expiring, staged, marked]
    rw [arm, expireCharge_quiet found quiet]
  · have now : s.expiring r = true := by simp [State.expiring, due, queued]
    rw [arm, expireCharge_due found now, queued]
    rfl
  · have quiet : s.expiring r = false := by
      rcases h with expired | early
      · simp [State.expiring, expired]
      · simp [State.expiring, early]
    rw [arm, expireCharge_quiet found quiet]
  · rw [here, discardCharge, found]
    rcases waiting with waiting | waiting <;> simp only [waiting, discardRecord_full r _ full]
  · have sealed : discardCharge charge s = discardRecord r (if r.state = .queued then .rackDiscard else .expiredDiscard) s := by
      rw [discardCharge, found]
      rcases waiting with waiting | waiting <;> simp [waiting]
    rw [here, sealed, discardRecord, if_pos room]
    generalize (if r.state = .queued then ScrapCause.rackDiscard else .expiredDiscard) = cause
    let record := scrapRecord s cause r.charge (some r.charge.close) none none
    let u := s.leaveRack r.charge.id
    refine ⟨scrapNow record u, rfl, ?_, scrapNow_sealed record u, scrapNow_below record u,
      scrapNow_ports_of record rfl rfl rfl, ?_⟩
    · exact scrapNow_ltr record u
    · apply State.eq_of_fields <;> simp [u, State.leaveRack]

/-! ### The cavities of the assembling shot -/

theorem Shot.modifyCavity_of {sh : Shot} {k : Fin 4} {v : Cavity} (held : sh.Holds k v) (f : Cavity → Cavity) :
    sh.modifyCavity k f = { sh with cavities := sh.cavities.set k (some (f v)) } := by
  rw [Shot.modifyCavity, Table.modify, held]
  rfl

theorem modifyAssembling_of {sh : Shot} (there : s.shc.assembling = some sh) (f : Shot → Shot) :
    s.modifyAssembling f = { s with shc := { s.shc with assembling := some (f sh) } } := by
  rw [State.modifyAssembling, there]
  rfl

theorem assemblingCavity_of {sh : Shot} (there : s.shc.assembling = some sh) (k : Fin 4) :
    s.assemblingCavity k = sh.cavities.get k := by
  rw [State.assemblingCavity, there]
  rfl

theorem assemblingCavity_none {k : Fin 4} {sh : Shot}
    (h : s.shc.assembling = none ∨ (s.shc.assembling = some sh ∧ sh.cavities.get k = none)) :
    s.assemblingCavity k = none := by
  rcases h with none | ⟨there, none⟩
  · rw [State.assemblingCavity, none]; rfl
  · rw [assemblingCavity_of there, none]

theorem cavityEmpty_of {k : Fin 4} {v : Cavity} (held : s.assemblingCavity k = some v) :
    s.cavityEmpty k = decide (v.state = .empty) := by
  rw [State.cavityEmpty, held]
  rfl

theorem cavityEmpty_none {k : Fin 4} (absent : s.assemblingCavity k = none) : s.cavityEmpty k = false := by
  rw [State.cavityEmpty, absent]
  rfl

theorem stagedCharge_none {k : Fin 4} (absent : s.assemblingCavity k = none) : s.stagedCharge k = none := by
  rw [State.stagedCharge, absent]

theorem stagedCharge_other {k : Fin 4} {v : Cavity} (held : s.assemblingCavity k = some v) (other : v.state ≠ .staged) :
    s.stagedCharge k = none := by
  simp [State.stagedCharge, held, other]

theorem stagedCharge_of {k : Fin 4} {v : Cavity} {id q : Nat} {r : RackRecord} (held : s.assemblingCavity k = some v)
    (staged : v.state = .staged) (charge : v.chargeId = some id) (number : v.sequence = some q)
    (found : s.rackRecord? id = some r) : s.stagedCharge k = some (r, q) := by
  simp [State.stagedCharge, held, staged, charge, number, found]

/-! ### TAKE CHARGE and RETURN CHARGE -/

/-- The first record of the queue that suits a cavity is chosen (R93). -/
theorem choose_of {k : Fin 4} {r : Recipe} {p : RackRecord → Prop} {front behind : List RackRecord} {y : RackRecord}
    (mounted : s.recipe = some r) (suits : ∀ x, x.suits r k s.clock = true ↔ p x)
    (rack : s.ltr.rack = front ++ y :: behind) (passed : ∀ z ∈ front, ¬ p z) (first : p y) : s.choose k = some y := by
  have found : s.ltr.rack.find? (fun x => x.suits r k s.clock) = some y := by
    rw [List.find?_eq_some_iff_append]
    refine ⟨(suits y).mpr first, front, behind, rack, fun z mem => ?_⟩
    rw [Bool.not_eq_true', Bool.eq_false_iff]
    exact (suits z).not.mpr (passed z mem)
  rw [State.choose, mounted]
  exact found

theorem choose_none {k : Fin 4} {r : Recipe} {p : RackRecord → Prop} (mounted : s.recipe = some r)
    (suits : ∀ x, x.suits r k s.clock = true ↔ p x) (passed : ∀ z ∈ s.ltr.rack, ¬ p z) : s.choose k = none := by
  rw [State.choose, mounted]
  exact List.find?_eq_none.mpr fun z mem => (suits z).not.mpr (passed z mem)

/-- A reservation, with the comparison of the available count (R152, R154, R156). -/
theorem reserve_eq (s : State) : reserve s = { s with
    hrg := { s.hrg with
      slots := s.hrg.slots.set s.hrg.writePos (.reserved s.hrg.nextSeq)
      nextSeq := s.hrg.nextSeq + 1
      writePos := s.hrg.writePos + 1
      below := decide ((reserve s).available < s.hrg.lowMark) }
    ports := { s.ports with
      press := (s.told .press ((reserve s).newlyLow s.hrg.below)).ports.press
      trace := (s.told .trace ((reserve s).newlyLow s.hrg.below)).ports.trace } } := by
  have same := compareLow_newlyLow (issue .reserved s) s.hrg.below
  have count := compareLow_available (issue .reserved s)
  rw [reserve, same, count, compareLow_eq, State.told_ports_congr (s := issue .reserved s) (t := s) .press _ rfl rfl,
    State.told_ports_congr (s := issue .reserved s) (t := s) .trace _ rfl rfl]
  rfl

/-- A reservation given up, with the comparison of the available count (R154, R156). -/
theorem voidSlot_eq (q : Nat) (s : State) : voidSlot q s = { s with
    hrg := { s.hrg with
      slots := (voidSlot q s).hrg.slots
      below := decide ((voidSlot q s).available < s.hrg.lowMark) }
    ports := { s.ports with
      press := (s.told .press ((voidSlot q s).newlyLow s.hrg.below)).ports.press
      trace := (s.told .trace ((voidSlot q s).newlyLow s.hrg.below)).ports.trace } } := by
  obtain ⟨slots, replaced⟩ : ∃ slots, replaceReserved q (.void q) s = { s with hrg := { s.hrg with slots := slots } } := by
    unfold replaceReserved
    split
    · exact ⟨_, rfl⟩
    · exact ⟨s.hrg.slots, rfl⟩
  let u : State := { s with hrg := { s.hrg with slots := slots } }
  have same := compareLow_newlyLow u s.hrg.below
  have count := compareLow_available u
  rw [voidSlot, replaced, same, count, compareLow_eq, State.told_ports_congr (s := u) (t := s) .press _ rfl rfl,
    State.told_ports_congr (s := u) (t := s) .trace _ rfl rfl]

theorem voidSlot_slots {q : Nat} (reserved : s.hrg.slots.get (slotOf q) = .reserved q) :
    (voidSlot q s).hrg.slots = s.hrg.slots.set (slotOf q) (.void q) := by
  rw [voidSlot, compareLow_hrg, replaceReserved, if_pos reserved]

/-- The reservation, the rack record and the cavity of a TAKE CHARGE (R93). -/
theorem stage_eq {sh : Shot} {v : Cavity} (k : Fin 4) (y : RackRecord) (there : s.shc.assembling = some sh)
    (held : sh.Holds k v) : stage k y s = { reserve s with
      ltr := { s.ltr with rack := s.ltr.rack.map fun z =>
        if z.charge.id = y.charge.id then { z with state := .staged k.val s.hrg.nextSeq false } else z }
      shc := { s.shc with assembling := some { sh with cavities := sh.cavities.set k (some
        { v with state := .staged, chargeId := some y.charge.id, sequence := some s.hrg.nextSeq }) } } } := by
  have kept : ((reserve s).modifyRack y.charge.id fun x =>
      { x with state := .staged k.val s.hrg.nextSeq false }).shc.assembling = some sh := by simpa using there
  have ltr : (reserve s).ltr = s.ltr := reserve_ltr s
  have shc : (reserve s).shc = s.shc := reserve_shc s
  rw [stage, modifyAssembling_of kept, Shot.modifyCavity_of held, State.modifyRack, ltr, shc]

theorem State.returnState_code (s : State) (r : RackRecord) :
    (s.returnState r).code = if s.returnState r = .queued then 0 else 1 := by
  unfold State.returnState
  split <;> rfl

/-- The rack record, the cavity and the slot of a RETURN CHARGE (R94). -/
theorem returnStaged_eq {k : Fin 4} {sh : Shot} {v : Cavity} (r : RackRecord) (q : Nat) (there : s.shc.assembling = some sh)
    (held : sh.Holds k v) : ∃ u, returnStaged k r q s = voidSlot q u ∧ u = { s with
      ltr := { s.ltr with rack := s.ltr.rack.map fun z =>
        if z.charge.id = r.charge.id then { z with state := s.returnState r } else z }
      shc := { s.shc with assembling := some { sh with cavities := sh.cavities.set k (some v.emptied) } } } := by
  refine ⟨_, ?_, rfl⟩
  rw [returnStaged, modifyAssembling_of (by exact there), Shot.modifyCavity_of held]
  rfl

/-- Settles O47. -/
theorem chargesAreStagedAndReturned : Obligations.ChargesAreStagedAndReturned := by
  intro k s sh v n take back compared
  have takes (cavity : BitVec 8) := exec_asked (i := .takeCharge .handler cavity) (s := s) (owner := takeCharge cavity) rfl
  have returns (cavity : BitVec 8) := exec_asked (i := .returnCharge .handler cavity) (s := s)
    (owner := returnCharge cavity) rfl
  have index : inRange 4 n = some k := inRange_ofNat k (by decide)
  refine ⟨fun cavity beyond => ?_, fun absent => ?_, fun there held => ⟨fun other => ?_, fun other => ?_,
    fun r empty mounted => ?_, fun id q r staged charge number found => ?_⟩⟩
  · rw [takes, returns, takeCharge, returnCharge, inRange_none cavity beyond]
    exact ⟨rfl, rfl⟩
  · have nothing := assemblingCavity_none absent
    simp only [take, back]
    rw [takes, returns, takeCharge, returnCharge, index]
    simp [cavityEmpty_none nothing, stagedCharge_none nothing]
  · have cavity : s.assemblingCavity k = some v := (assemblingCavity_of there k).trans held
    simp only [take]
    rw [takes, takeCharge, index]
    simp [cavityEmpty_of cavity, other]
  · have cavity : s.assemblingCavity k = some v := (assemblingCavity_of there k).trans held
    simp only [back]
    rw [returns, returnCharge, index]
    simp [stagedCharge_other cavity other]
  · have cavity : s.assemblingCavity k = some v := (assemblingCavity_of there k).trans held
    have free : s.cavityEmpty k = true := by rw [cavityEmpty_of cavity, decide_eq_true empty]
    intro suits
    have chosen (y : RackRecord) : y.suits r k s.clock = true ↔ suits y := by
      simp [RackRecord.suits, suits, and_assoc]
    simp only [take]
    rw [takes, takeCharge, index]
    simp only [if_pos free]
    refine ⟨fun nothing => ?_, fun front y behind rack passed first => ?_⟩
    · rw [choose_none mounted chosen nothing]
    · rw [choose_of mounted chosen rack passed first]
      refine ⟨fun full => ?_, fun room => ?_⟩
      · simp [full]
      · simp only [if_pos room]
        rw [stage_eq k y there held]
        have reserved := reserve_eq s
        refine ⟨_, rfl, (congrArg State.hrg reserved :), (congrArg State.ports reserved :), rfl, rfl, ?_⟩
        rw [reserved]
  · have cavity : s.assemblingCavity k = some v := (assemblingCavity_of there k).trans held
    obtain ⟨u, returned, table⟩ := returnStaged_eq r q there held
    have hrg : u.hrg = s.hrg := by rw [table]
    have ports : u.ports = s.ports := by rw [table]
    have clock : u.clock = s.clock := by rw [table]
    have voided := voidSlot_eq q u
    rw [hrg, ports, State.told_ports_congr .press _ ports clock, State.told_ports_congr .trace _ ports clock] at voided
    simp only [back]
    rw [returns, returnCharge, index]
    simp only [stagedCharge_of cavity staged charge number found]
    rw [returned]
    refine ⟨voidSlot q u, s.returnState r, s.returnState_returnsAs r, ?_, ?_, ?_, ?_, ?_, ?_, ?_⟩
    · rw [rackRecord_id found, State.returnState_code]
    · exact (voidSlot_ltr u q).trans (by rw [table, rackRecord_id found])
    · exact (voidSlot_shc u q).trans (by rw [table]; rfl)
    · intro reserved
      rw [← hrg] at reserved ⊢
      exact voidSlot_slots reserved
    · exact (congrArg State.hrg voided :)
    · exact (congrArg State.ports voided :)
    · apply State.eq_of_fields <;> simp [table]

end Sys2Proof.Machine
end

section
/-! PROOFS. Charges loaded into the cavities and removed from them (R95, R107, R108). -/

namespace Sys2Proof.Machine

variable {s : State}

/-! ### LOADED -/

theorem load_eq {sh : Shot} {k : Fin 4} {v : Cavity} (r : RackRecord) (there : s.shc.assembling = some sh)
    (held : sh.Holds k v) : load k r s = { s with
      ltr := { s.ltr with rack := s.ltr.rack.filter fun y => y.charge.id ≠ r.charge.id }
      shc := { s.shc with assembling := some { sh with cavities := sh.cavities.set k (some
        { v with state := .loaded, charge := some r.charge, loadTime := some s.clock }) } } } := by
  rw [load, modifyAssembling_of (by exact there), Shot.modifyCavity_of held]
  rfl

/-- LOADED without the handler's hold, or beside a press-side shot, is refused (R107). -/
theorem loaded_refused {k : Fin 4} (h : s.dmi.holder ≠ .handler ∨ s.stagedCharge k = none ∨ s.shc.press.isSome) :
    loaded (BitVec.ofNat 8 k.val) s = (s, .bare .badState) := by
  rw [loaded, inRange_ofNat k (by decide)]
  dsimp only
  split
  · rfl
  · rename_i staged
    rw [if_neg]
    rcases h with other | absent | press
    · simp [other]
    · rw [absent] at staged; cases staged
    · cases there : s.shc.press with
      | none => simp [there] at press
      | some sh => simp

theorem loaded_taken {k : Fin 4} {r : RackRecord} {q : Nat} (staged : s.stagedCharge k = some (r, q))
    (press : s.shc.press = none) (handler : s.dmi.holder = .handler) :
    loaded (BitVec.ofNat 8 k.val) s = (load k r s, ⟨.ok, be 4 r.charge.id⟩) := by
  rw [loaded, inRange_ofNat k (by decide)]
  simp [staged, press, handler]

/-! ### Charges sealed into reserved slots -/

theorem lowerRefs_eq (plies : List Ply) (s : State) :
    lowerRefs plies s = { s with ltr := { s.ltr with lots := s.lotsAfter plies none s.ltr.lots } } := by
  rw [← lowerRefs_lots]
  apply State.eq_of_fields <;> simp
  exact lowerRefs_ltr plies s

theorem sealReserved_eq (q : Nat) (r : Record) (s : State) :
    sealReserved q r s = { s with hrg := (sealReserved q r s).hrg } := by
  unfold sealReserved replaceReserved
  split <;> rfl

theorem sealReserved_slots {q : Nat} (r : Record) (reserved : s.hrg.slots.get (slotOf q) = .reserved q) :
    (sealReserved q r s).hrg = { s.hrg with slots := s.hrg.slots.set (slotOf q) (.sealed q r) } := by
  rw [sealReserved, replaceReserved, if_pos reserved]

/-- The SCRAP record of a charge in a cavity (R160). -/
def State.cavityScrap (s : State) (cause : ScrapCause) (shot : Nat) (k : Fin 4) (c : Cavity) (h : Charge) : ScrapRecord :=
  scrapRecord s cause h (some h.close) c.loadTime (some (shot, k.val))

/-- A cavity's charge sealed as SCRAP changes the lot table and the ring alone (R85, R157). -/
theorem scrapCavity_eq {c : Cavity} {h : Charge} {q : Nat} (charge : c.charge = some h) (number : c.sequence = some q)
    (cause : ScrapCause) (shot : Nat) (k : Fin 4) (s : State) : scrapCavity cause shot k c s = { s with
      ltr := { s.ltr with lots := s.lotsAfter h.plies none s.ltr.lots }
      hrg := (sealReserved q (.scrap (s.cavityScrap cause shot k c h)) s).hrg } := by
  have sealed : scrapCavity cause shot k c s =
      lowerRefs h.plies (sealReserved q (.scrap (s.cavityScrap cause shot k c h)) s) := by
    simp only [scrapCavity, charge, number]
    rfl
  rw [sealed, lowerRefs_eq, sealReserved_eq]
  rfl

/-! ### REMOVE CHARGE -/

theorem removeCharge_refused {k : Fin 4}
    (h : s.dmi.holder ≠ .handler ∨ ∀ v, s.assemblingCavity k = some v → v.state ≠ .loaded) :
    removeCharge (BitVec.ofNat 8 k.val) s = (s, .bare .badState) := by
  rw [removeCharge, inRange_ofNat k (by decide)]
  dsimp only
  split
  · rename_i sh v there held
    rw [if_neg]
    rcases h with other | other
    · simp [other]
    · simp [other v held]
  · rfl

theorem removeCharge_taken {k : Fin 4} {sh : Shot} {v : Cavity} (there : s.shc.assembling = some sh) (held : sh.Holds k v)
    (loaded : v.state = .loaded) (handler : s.dmi.holder = .handler) :
    removeCharge (BitVec.ofNat 8 k.val) s = (removeFrom sh.number k v s, ⟨.ok, beOpt 4 v.sequence⟩) := by
  have cavity : s.assemblingCavity k = some v := (assemblingCavity_of there k).trans held
  rw [removeCharge, inRange_ofNat k (by decide)]
  simp [there, cavity, loaded, handler]

/-- Settles O48. -/
theorem chargesAreLoadedAndRemoved : Obligations.ChargesAreLoadedAndRemoved := by
  intro k s sh v n load_ remove
  have loads (cavity : BitVec 8) := exec_asked (i := .loaded .handler cavity) (s := s) (owner := loaded cavity) rfl
  have removes (cavity : BitVec 8) := exec_asked (i := .removeCharge .handler cavity) (s := s)
    (owner := removeCharge cavity) rfl
  refine ⟨fun cavity beyond => ?_, fun h => ?_, fun handler there held => ⟨fun h => ?_, fun other => ?_,
    fun id q r staged press charge number found => ?_, fun c q full charge number => ?_⟩⟩
  · rw [loads, removes, loaded, removeCharge, inRange_none cavity beyond]
    exact ⟨rfl, rfl⟩
  · have absent (h : s.shc.assembling = none) : s.assemblingCavity k = none := assemblingCavity_none (sh := sh) (.inl h)
    simp only [load_, remove]
    rw [loads, removes, loaded_refused (h.imp_right fun none => .inl (stagedCharge_none (absent none))),
      removeCharge_refused (h.imp_right fun none v held => by rw [absent none] at held; cases held)]
    exact ⟨rfl, rfl⟩
  · have cavity : s.assemblingCavity k = some v := (assemblingCavity_of there k).trans held
    simp only [load_]
    rw [loads, loaded_refused (.inr (h.imp_left fun other => stagedCharge_other cavity other))]
  · have cavity : s.assemblingCavity k = some v := (assemblingCavity_of there k).trans held
    simp only [remove]
    rw [removes, removeCharge_refused (.inr fun w held => by rw [cavity] at held; cases held; exact other)]
  · have cavity : s.assemblingCavity k = some v := (assemblingCavity_of there k).trans held
    simp only [load_]
    rw [loads, loaded_taken (stagedCharge_of cavity staged charge number found) press handler, load_eq r there held,
      rackRecord_id found]
  · simp only [remove]
    rw [removes, removeCharge_taken there held full handler, number, removeFrom]
    have sealed : sealSequences [(k, v)] = [q] := by simp [sealSequences, Cavity.sealSequence, charge, number]
    rw [sealed, scrapCavity_eq charge number]
    rw [modifyAssembling_of (sh := sh) (by exact there), Shot.modifyCavity_of held]
    exact ⟨_, rfl, rfl, sealReserved_slots _, rfl, rfl, rfl⟩

end Sys2Proof.Machine
end

section
/-! PROOFS. WRITE RECIPE: the checks and the clamping of a recipe body (R98, R99). -/

namespace Sys2Proof.Machine

variable {s : State}

/-! ### The checks -/

theorem Table.any_toList {α : Type} {n : Nat} (t : Table α n) (p : α → Bool) :
    t.toList.any p = true ↔ ∃ k, p (t.get k) = true := by
  rw [List.any_eq_true]
  constructor
  · rintro ⟨a, mem, h⟩
    obtain ⟨i, low, rfl⟩ := List.mem_iff_getElem.mp mem
    exact ⟨⟨i, t.size_eq ▸ low⟩, h⟩
  · exact fun ⟨k, h⟩ => ⟨t.get k, List.getElem_mem _, h⟩

/-- Every item stands to the next as asked. -/
theorem adjacent_iff {α : Type} (ok : α → α → Bool) (l : List α) :
    adjacent ok l = true ↔ ∀ i (h : i + 1 < l.length), ok l[i] l[i + 1] = true := by
  induction l with
  | nil => simp [adjacent]
  | cons a rest ih =>
    cases rest with
    | nil => simp [adjacent]
    | cons b rest =>
      rw [adjacent, Bool.and_eq_true, ih]
      constructor
      · rintro ⟨first, later⟩ i h
        cases i with
        | zero => exact first
        | succ i => exact later i (by simpa using h)
      · exact fun all => ⟨all 0 (by simp), fun i h => all (i + 1) (by simpa using h)⟩

theorem Table.adjacent_iff {α : Type} {n : Nat} (t : Table α n) (ok : α → α → Bool) :
    adjacent ok t.toList = true ↔ ∀ i j : Fin n, i.val + 1 = j.val → ok (t.get i) (t.get j) = true := by
  rw [Machine.adjacent_iff]
  constructor
  · intro all i j next
    have h := all i.val (by rw [t.size_eq, next]; exact j.isLt)
    simpa only [Table.get, next] using h
  · intro all i h
    rw [t.size_eq] at h
    exact all ⟨i, by omega⟩ ⟨i + 1, h⟩ rfl

theorem badCavity_iff (b : RecipeBody) : badCavity b = true ↔
    ∃ k : Fin 4, k.val < b.cavityCount.toNat ∧ (3 < (b.groupOf.get k).toNat ∨ b.maskOf.get k = 0) := by
  simp [badCavity]

theorem badBody_iff (b : RecipeBody) : badBody b = true ↔
    b.mouldId = 0 ∨ b.cavityCount.toNat = 0 ∨ 4 < b.cavityCount.toNat ∨
      (∃ k : Fin 4, k.val < b.cavityCount.toNat ∧ (3 < (b.groupOf.get k).toNat ∨ b.maskOf.get k = 0)) ∨
      ∃ k, 4096 ≤ (b.maskOf.get k).toNat := by
  have zero : b.cavityCount = 0 ↔ b.cavityCount.toNat = 0 := by
    rw [← BitVec.toNat_inj]
    rfl
  rw [← badCavity_iff]
  simp only [badBody, Bool.or_eq_true, Table.any_toList, maskBeyondZones, decide_eq_true_eq, beq_iff_eq, or_assoc, zero]

theorem recipeOf_ordered_iff (b : RecipeBody) : (recipeOf b).ordered = true ↔
    (∀ i j : Fin 8, i.val + 1 = j.val → (b.rates.get i).temp.toInt < (b.rates.get j).temp.toInt ∧
      min 1000 (b.rates.get i).rate.toNat ≤ min 1000 (b.rates.get j).rate.toNat) ∧
    nearest 1 4294967294 b.cureTarget.toNat < b.overCure.toNat := by
  rw [Recipe.ordered, Bool.and_eq_true, Table.adjacent_iff]
  simp only [recipeOf, Table.get_mapIdx, Bool.and_eq_true, decide_eq_true_eq,
    clampNat_eq_nearest _ (show 1 ≤ 4294967294 by decide)]

theorem clampSigned_zero (hi : Nat) (v : Int) : (clampSigned 0 hi v : Int) = max 0 (min (hi : Int) v) := by
  unfold clampSigned clampNat
  omega

theorem clampSigned_ne_iff (hi : Nat) (v : Int) : (clampSigned 0 hi v : Int) ≠ v ↔ ¬ (0 ≤ v ∧ v ≤ hi) := by
  rw [clampSigned_zero]
  omega

/-- A body is clamped exactly where one of its setup values was out of its range (R99). -/
theorem bodyClamped_iff (b : RecipeBody) : bodyClamped b (recipeOf b) = true ↔
    ¬ ((∀ z, 0 ≤ (b.setpoints.get z).toInt ∧ (b.setpoints.get z).toInt ≤ 2500) ∧
      (∀ i, (b.rates.get i).rate.toNat ≤ 1000) ∧ 1 ≤ b.cureTarget.toNat ∧ b.cureTarget.toNat ≤ 4294967294 ∧
      b.bumpCount.toNat ≤ 5 ∧ 5 ≤ b.demouldWindow.toNat ∧ b.demouldWindow.toNat ≤ 600 ∧ 1 ≤ b.outTime.toNat ∧
      b.outTime.toNat ≤ 1440 ∧ b.loadMargin.toNat ≤ 600 ∧ b.takeLimit.toNat ≤ 3 ∧ b.blindLimit.toNat ≤ 600) := by
  have setpoints : (∃ z, (((recipeOf b).setpoints.get z : Nat) : Int) ≠ (b.setpoints.get z).toInt) ↔
      ¬ ∀ z, 0 ≤ (b.setpoints.get z).toInt ∧ (b.setpoints.get z).toInt ≤ 2500 := by
    rw [not_forall]
    refine exists_congr fun z => ?_
    rw [recipeOf, Table.get_mapIdx]
    exact clampSigned_ne_iff 2500 _
  have rates : (∃ i, ((recipeOf b).rates.get i).rate ≠ (b.rates.get i).rate.toNat) ↔
      ¬ ∀ i, (b.rates.get i).rate.toNat ≤ 1000 := by
    rw [not_forall]
    refine exists_congr fun i => ?_
    simp only [recipeOf, Table.get_mapIdx]
    omega
  simp only [bodyClamped, Bool.or_eq_true, List.any_eq_true, List.mem_finRange, true_and, decide_eq_true_eq, setpoints, rates]
  simp only [recipeOf, clampNat_ne_iff _ (show 1 ≤ 4294967294 by decide), clampNat_ne_iff _ (show 0 ≤ 5 by decide),
    clampNat_ne_iff _ (show 5 ≤ 600 by decide), clampNat_ne_iff _ (show 1 ≤ 1440 by decide),
    clampNat_ne_iff _ (show 0 ≤ 600 by decide), Nat.zero_le, true_and, ← Nat.not_le, ← not_and_or, and_assoc]

/-- Settles O49. -/
theorem recipesAreCheckedAndWritten : Obligations.RecipesAreCheckedAndWritten := by
  intro slot b s request n bad ordered asGiven
  have asked (i : BitVec 8) := exec_asked (i := .writeRecipe .press i b) (s := s) (owner := writeRecipe i b) rfl
  have here : request = .next (s.replied .press (writeRecipe (BitVec.ofNat 8 slot.val) b s).2
    (writeRecipe (BitVec.ofNat 8 slot.val) b s).1) := asked _
  have refused : badBody b = true ↔ bad := badBody_iff b
  have inOrder : (recipeOf b).ordered = true ↔ ordered := recipeOf_ordered_iff b
  have clamped : bodyClamped b (recipeOf b) = true ↔ ¬ asGiven := bodyClamped_iff b
  rw [here, writeRecipe, inRange_ofNat slot (by decide)]
  refine ⟨fun other beyond => ?_, fun mounted => ?_, fun free h => ?_, fun free good rising => ?_⟩
  · rw [asked, writeRecipe, inRange_none other beyond]
  · simp only [if_pos mounted]
  · simp only [if_neg free]
    by_cases refuse : badBody b = true
    · rw [if_pos refuse]
    · rw [if_neg refuse, if_neg (inOrder.not.mpr (h.resolve_left (refused.not.mp refuse)))]
  · simp only [if_neg free, if_neg (refused.not.mpr good), if_pos (inOrder.mpr rising)]
    refine ⟨recipeOf b, _, rfl, fun given => ?_, fun given => ?_, rfl, rfl, rfl, fun k => ?_, fun g => ?_, fun z => ?_,
      clampNat_eq_nearest _ (by decide), rfl, fun i => ?_, ?_, clampNat_eq_nearest _ (by decide),
      clampNat_eq_nearest _ (by decide), ?_, rfl, ?_⟩
    · exact if_neg (clamped.not.mpr (not_not.mpr given))
    · exact if_pos (clamped.mpr given)
    · exact Table.get_ofFn ..
    · exact Table.get_mapIdx ..
    · simp only [recipeOf, Table.get_mapIdx]
      exact clampSigned_zero 2500 _
    · exact Table.get_mapIdx ..
    · exact Nat.zero_max _
    · exact Nat.zero_max _
    · exact Nat.zero_max _

end Sys2Proof.Machine
end

section
/-! PROOFS. The mount and the arming of a shot (R17, R32, R101, R102, R106). -/

namespace Sys2Proof.Machine

variable {s : State}

/-! ### MOUNT MOULD and UNMOUNT -/

theorem mounted_of_recipe {r : Recipe} (h : s.recipe = some r) :
    ∃ slot, s.shc.mounted = some slot ∧ s.shc.recipes.get slot = some r :=
  Option.bind_eq_some_iff.mp h

theorem weighing_iff : s.weighing = true ↔ ∃ k, (s.scales.get k).state = .opened ∨ (s.scales.get k).state = .capturing := by
  rw [State.weighing, Table.any_toList]
  simp

theorem mountMould_refused {slot : Fin 8} (h : s.shc.mounted.isSome ∨ s.tableEmpty = false ∨ s.shc.recipes.get slot = none) :
    mountMould (BitVec.ofNat 8 slot.val) s = (s, .bare .badState) := by
  rw [mountMould, inRange_ofNat slot (by decide)]
  by_cases taken : (s.shc.mounted.isSome || !s.tableEmpty) = true
  · simp only [if_pos taken]
  · have empty : s.shc.recipes.get slot = none := by
      rw [Bool.or_eq_true, not_or] at taken
      refine (h.resolve_left taken.1).resolve_left fun full => taken.2 ?_
      rw [full]; rfl
    simp only [if_neg taken, empty]

theorem mountMould_mounts {slot : Fin 8} {r : Recipe} (unmounted : s.shc.mounted = none) (empty : s.tableEmpty = true)
    (stored : s.shc.recipes.get slot = some r) : mountMould (BitVec.ofNat 8 slot.val) s =
      (setMount (some slot) s, ⟨.ok, be 2 r.mouldId ++ be 1 r.revision ++ be 1 r.cavityCount⟩) := by
  rw [mountMould, inRange_ofNat slot (by decide)]
  simp [unmounted, empty, stored]

theorem unmount_refused (h : s.shc.mounted = none ∨ s.tableEmpty = false ∨ s.ltr.rack ≠ [] ∨
      ∃ k, (s.scales.get k).state = .opened ∨ (s.scales.get k).state = .capturing) :
    unmount s = (s, .bare .badState) := by
  rw [unmount, if_pos]
  rw [Bool.or_eq_true, Bool.or_eq_true, Bool.or_eq_true, weighing_iff, or_assoc, or_assoc]
  simpa using h

theorem unmount_unmounts {r : Recipe} (mounted : s.recipe = some r) (empty : s.tableEmpty = true) (rack : s.ltr.rack = [])
    (closed : ∀ k, (s.scales.get k).state = .idle ∨ (s.scales.get k).state = .taring) :
    unmount s = (setMount none s, ⟨.ok, be 2 r.mouldId ++ be 1 r.revision⟩) := by
  have idle : s.weighing = false := by
    rw [Bool.eq_false_iff]
    refine weighing_iff.not.mpr fun ⟨k, open_⟩ => ?_
    rcases closed k with h | h <;> simp [h] at open_
  obtain ⟨slot, slotted, -⟩ := mounted_of_recipe mounted
  rw [unmount, if_neg (by simp [slotted, empty, rack, idle]), mounted]
  rfl

/-- Under a mounted recipe a setpoint is its own, less the setback in STANDBY (R17). -/
theorem derivedSetpoint_recipe {r : Recipe} (mounted : s.recipe = some r) (z : Fin 12) :
    s.derivedSetpoint z =
      if s.zct.heatMode = .standby then r.setpoints.get z - s.zct.setback else r.setpoints.get z := by
  rw [State.derivedSetpoint, State.baseSetpoint, mounted]
  cases s.zct.heatMode <;> rfl

/-- With no mould mounted a setpoint is the idle setpoint, a pending one first, less the setback in STANDBY (R17). -/
theorem derivedSetpoint_idle (unmounted : s.recipe = none) (z : Fin 12) :
    s.derivedSetpoint z =
      let idle := ((s.zct.zones.get z).pendingSetup.getD (s.zct.zones.get z).active).idle
      if s.zct.heatMode = .standby then idle - s.zct.setback else idle := by
  rw [State.derivedSetpoint, State.baseSetpoint, unmounted]
  cases s.zct.heatMode <;> rfl

/-! ### ARM SHOT -/

theorem newShot_cavities (n : Nat) (slot : Fin 8) (r : Recipe) (mask : BitVec 8) (now : Nat) (k : Fin 4) :
    (newShot n slot r mask now).cavities.get k = if mask.getLsbD k.val then some Cavity.fresh else none := by
  simp [newShot, maskCavities]

/-- ARM SHOT leaves PRODUCTION with its standby wait stopped (R32). -/
theorem heatForShot_production (production : s.zct.heatMode = .production) :
    heatForShot s = { s with zct := { s.zct with emptySince := none } } := by
  rw [heatForShot, production]

theorem heatForShot_standby (standby : s.zct.heatMode = .standby) : heatForShot s = enterProduction none s := by
  rw [heatForShot, standby]

theorem armShot_noMould (mask : BitVec 8) (unmounted : s.shc.mounted = none) : armShot mask s = (s, .bare .noMould) := by
  rw [armShot, unmounted]

theorem armShot_of {mask : BitVec 8} {r : Recipe} {slot : Fin 8} (slotted : s.shc.mounted = some slot)
    (mounted : s.recipe = some r) : armShot mask s =
      if mask = 0 ∨ 2 ^ r.cavityCount ≤ mask.toNat ∨ 16 ≤ mask.toNat then (s, .bare .badArgument)
      else if s.shc.assembling.isSome then (s, .bare .badState)
      else (arm slot r mask s, ⟨.ok, be 4 s.shc.shotCounter⟩) := by
  rw [armShot, slotted, mounted]
  simp [maskReaches, or_assoc]

/-- What ARM SHOT leaves: the shot and its number, the station called back to PRODUCTION (R32, R106). -/
theorem arm_eq (slot : Fin 8) (r : Recipe) (mask : BitVec 8) (s : State) : ∃ counter free,
    Fits32 (s.shc.shotCounter + 1) s.freeCount counter free ∧
    arm slot r mask s = heatForShot { s with
      freeCount := free
      shc := { s.shc with
        shotCounter := counter, assembling := some (newShot s.shc.shotCounter slot r mask s.clock) } } := by
  refine ⟨_, _, fitWord_fits _ s, ?_⟩
  unfold arm
  dsimp only
  rw [fitWord_state]

/-- Settles O50. -/
theorem mouldsAreMountedAndShotsArmed : Obligations.MouldsAreMountedAndShotsArmed := by
  intro slot mask r s mount armed
  have mounts (i : BitVec 8) := exec_asked (i := .mountMould .press i) (s := s) (owner := mountMould i) rfl
  have unmounts := exec_asked (i := .unmount .press) (s := s) (owner := unmount) rfl
  have arms : armed = .next (s.replied .press (armShot mask s).2 (armShot mask s).1) :=
    exec_asked (i := .armShot .press mask) rfl
  refine ⟨fun other beyond => ?_, fun h => ?_, fun unmounted empty stored => ?_, fun h => ?_,
    fun mounted empty rack closed => ?_, fun unmounted => ?_, fun mounted bad => ?_, fun mounted named low inFour =>
      ⟨fun there => ?_, fun free i slotted => ?_⟩⟩
  · rw [mounts, mountMould, inRange_none other beyond]
  · simp only [mount]
    rw [mounts, mountMould_refused h]
  · simp only [mount]
    rw [mounts, mountMould_mounts unmounted empty stored]
    refine ⟨_, rfl, rfl, fun z => ?_, rfl, rfl⟩
    have recipe : State.recipe { s with shc := { s.shc with mounted := some slot } } = some r := stored
    exact (deriveAll_zone _ z).trans (by rw [derivedSetpoint_recipe recipe])
  · rw [unmounts, unmount_refused h]
  · rw [unmounts, unmount_unmounts mounted empty rack closed]
    refine ⟨_, rfl, rfl, fun z => ?_, rfl, rfl⟩
    exact (deriveAll_zone _ z).trans (by rw [derivedSetpoint_idle rfl])
  · rw [arms, armShot_noMould mask unmounted]
  · obtain ⟨i, slotted, -⟩ := mounted_of_recipe mounted
    rw [arms, armShot_of slotted mounted, if_pos bad]
  · obtain ⟨i, slotted, -⟩ := mounted_of_recipe mounted
    have good := not_or.mpr ⟨named, not_or.mpr ⟨Nat.not_le.mpr low, Nat.not_le.mpr inFour⟩⟩
    rw [arms, armShot_of slotted mounted, if_neg good, if_pos there]
  · have good := not_or.mpr ⟨named, not_or.mpr ⟨Nat.not_le.mpr low, Nat.not_le.mpr inFour⟩⟩
    rw [arms, armShot_of slotted mounted, if_neg good, if_neg (by simp [free])]
    obtain ⟨counter, after, fits, took⟩ := arm_eq i r mask s
    rw [took]
    refine ⟨_, newShot s.shc.shotCounter i r mask s.clock, rfl, ?_⟩
    have cavities := newShot_cavities s.shc.shotCounter i r mask s.clock
    cases mode : s.zct.heatMode with
    | production =>
      rw [heatForShot_production (by exact mode)]
      exact ⟨rfl, fits, rfl, rfl, rfl, rfl, rfl, rfl, rfl, cavities, mode, rfl, fun _ => ⟨rfl, rfl⟩, nofun, rfl, rfl⟩
    | standby =>
      rw [heatForShot_standby (by exact mode)]
      refine ⟨rfl, fits, rfl, rfl, rfl, rfl, rfl, rfl, rfl, cavities, rfl, rfl, nofun, fun _ => ⟨fun z => ?_, ?_⟩, rfl, rfl⟩
      · exact (deriveAll_zone _ z).trans (by rw [derivedSetpoint_recipe (r := r) (by exact mounted)]; rfl)
      · exact PortState.join_newest ..

end Sys2Proof.Machine
end

section
/-! PROOFS. The close: refused, granted or held, and a held close examined again (R109 to R112). -/

namespace Sys2Proof.Machine

variable {s : State} {sh : Shot}

/-! ### The first of an ascending list -/

/-- In an ascending list the least that meets a condition is the one found. -/
theorem find?_of_least {n : Nat} {l : List (Fin n)} {p : Fin n → Bool} {a : Fin n} (ascending : l.Pairwise (· < ·))
    (mem : a ∈ l) (hit : p a = true) (before : ∀ b ∈ l, b < a → p b = false) : l.find? p = some a := by
  obtain ⟨front, behind, rfl⟩ := List.append_of_mem mem
  rw [List.find?_eq_some_iff_append]
  refine ⟨hit, front, behind, rfl, fun b inFront => ?_⟩
  have below : b < a := (List.pairwise_append.mp ascending).2.2 b inFront a (by simp)
  rw [before b (by simp [inFront]) below]
  rfl

/-- The lowest enabled cavity that meets a condition. -/
theorem Shot.find?_enabled {p : Cavity → Bool} {k : Fin 4} {c : Cavity} (held : sh.Holds k c) (hit : p c = true)
    (before : ∀ j d, sh.Holds j d → j < k → p d = false) : sh.enabled.find? (fun x => p x.2) = some (k, c) := by
  have first : (List.finRange 4).find? (fun j => ((sh.cavities.get j).map fun d => (j, d)).any fun x => p x.2) = some k := by
    refine find?_of_least (List.pairwise_lt_finRange 4) (List.mem_finRange k) ?_ fun j _ low => ?_
    · rw [show sh.cavities.get k = some c from held]
      exact hit
    · cases there : sh.cavities.get j with
      | none => rfl
      | some d => exact before j d there low
  rw [Shot.enabled, List.find?_filterMap, first]
  exact congrArg (Option.map fun d => (k, d)) held

theorem Shot.find?_enabled_none {p : Cavity → Bool} (none : ∀ k c, sh.Holds k c → p c = false) :
    sh.enabled.find? (fun x => p x.2) = Option.none := by
  rw [List.find?_eq_none]
  intro x mem
  simp only [Shot.enabled, List.mem_filterMap, Option.map_eq_some_iff] at mem
  obtain ⟨k, -, c, held, rfl⟩ := mem
  rw [none k c held]
  decide

theorem Shot.notLoaded_of {k : Fin 4} {c : Cavity} (held : sh.Holds k c) (unloaded : c.state ≠ .loaded)
    (before : ∀ j d, sh.Holds j d → j < k → d.state = .loaded) : sh.notLoaded = some k := by
  rw [Shot.notLoaded, Shot.find?_enabled (p := fun c => c.state ≠ .loaded) held (by simpa using unloaded)
    fun j d has low => by simpa using before j d has low]
  rfl

theorem Shot.notLoaded_none (loaded : ∀ k c, sh.Holds k c → c.state = .loaded) : sh.notLoaded = none := by
  rw [Shot.notLoaded, Shot.find?_enabled_none (p := fun c => c.state ≠ .loaded) fun k c has => by simpa using loaded k c has]
  rfl

theorem Shot.firstOverdue_of {now : Nat} {k : Fin 4} {c : Cavity} (held : sh.Holds k c) (due : c.overdue now = true)
    (before : ∀ j d, sh.Holds j d → j < k → ¬ d.overdue now = true) : sh.firstOverdue now = some k := by
  rw [Shot.firstOverdue, Shot.find?_enabled (p := fun c => c.overdue now) held due
    fun j d has low => Bool.eq_false_iff.mpr (before j d has low)]
  rfl

theorem Shot.firstOverdue_none {now : Nat} (timely : ∀ k c, sh.Holds k c → ¬ c.overdue now = true) :
    sh.firstOverdue now = none := by
  rw [Shot.firstOverdue, Shot.find?_enabled_none (p := fun c => c.overdue now)
    fun k c has => Bool.eq_false_iff.mpr (timely k c has)]
  rfl

theorem State.mem_zonesOf {z : Fin 12} : z ∈ s.zonesOf sh ↔ s.Needs sh z := by
  unfold State.zonesOf State.Needs
  cases s.recipe with
  | none => simp
  | some r =>
    simp only [List.mem_filter, List.mem_finRange, true_and, List.any_eq_true, Shot.enabled, List.mem_filterMap,
      Option.map_eq_some_iff, Shot.Holds]
    constructor
    · rintro ⟨x, ⟨k, c, held, rfl⟩, named⟩
      exact ⟨r, k, c, rfl, held, named⟩
    · rintro ⟨_, k, c, mounted, held, named⟩
      cases mounted
      exact ⟨(k, c), ⟨k, c, held, rfl⟩, named⟩

theorem State.zonesOf_ascending (s : State) (sh : Shot) : (s.zonesOf sh).Pairwise (· < ·) := by
  unfold State.zonesOf
  cases s.recipe with
  | none => exact .nil
  | some r => exact (List.pairwise_lt_finRange 12).sublist List.filter_sublist

theorem State.neededIn_of {m : ZoneMode} {z : Fin 12} (needed : s.Needs sh z) (mode : (s.zct.zones.get z).mode = m)
    (before : ∀ y, s.Needs sh y → y < z → (s.zct.zones.get y).mode ≠ m) : s.neededIn sh m = some z :=
  find?_of_least (s.zonesOf_ascending sh) (State.mem_zonesOf.mpr needed) (decide_eq_true mode)
    fun y mem low => decide_eq_false (before y (State.mem_zonesOf.mp mem) low)

theorem State.neededIn_none {m : ZoneMode} (none : ∀ z, s.Needs sh z → (s.zct.zones.get z).mode ≠ m) :
    s.neededIn sh m = Option.none :=
  List.find?_eq_none.mpr fun z mem => by simpa using none z (State.mem_zonesOf.mp mem)

/-! ### Zone masks -/

/-- A sum of distinct powers of 2 has exactly those bits. -/
theorem testBit_sum_two_pow (p : Nat → Bool) (n : Nat) :
    let mask := (((List.range n).filter p).map fun i => 2 ^ i).sum
    mask < 2 ^ n ∧ ∀ z < n, mask.testBit z = p z := by
  induction n with
  | zero => simp
  | succ n ih =>
    obtain ⟨low, bits⟩ := ih
    generalize mask_eq : (((List.range n).filter p).map fun i => 2 ^ i).sum = mask at low bits
    have next : (((List.range (n + 1)).filter p).map fun i => 2 ^ i).sum = (if p n then 2 ^ n else 0) + mask := by
      rw [List.range_succ, List.filter_append, List.map_append, List.sum_append, mask_eq, Nat.add_comm]
      by_cases h : p n <;> simp [h]
    rw [next]
    have top : mask.testBit n = false := Nat.testBit_lt_two_pow low
    by_cases h : p n = true
    · rw [if_pos h]
      refine ⟨by rw [Nat.pow_succ]; omega, fun z below => ?_⟩
      rcases Nat.lt_succ_iff_lt_or_eq.mp below with below | rfl
      · rw [Nat.testBit_two_pow_add_gt below, bits z below]
      · rw [Nat.testBit_two_pow_add_eq, top, h]
        rfl
    · rw [if_neg h, Nat.zero_add]
      refine ⟨by rw [Nat.pow_succ]; omega, fun z below => ?_⟩
      rcases Nat.lt_succ_iff_lt_or_eq.mp below with below | rfl
      · exact bits z below
      · rw [top, Bool.eq_false_iff.mpr h]

/-- The zone mask of some of the zones names exactly those (R180, R181). -/
theorem zoneMask_filter (p : Fin 12 → Bool) :
    zoneMask ((List.finRange 12).filter p) < 4096 ∧
      ∀ z : Fin 12, (zoneMask ((List.finRange 12).filter p)).testBit z.val = p z := by
  have vals : ((List.finRange 12).filter p).map Fin.val =
      (List.range 12).filter fun i => if low : i < 12 then p ⟨i, low⟩ else false := by
    rw [← List.map_coe_finRange_eq_range, List.filter_map]
    congr 1
  have same : zoneMask ((List.finRange 12).filter p) =
      (((List.range 12).filter fun i => if low : i < 12 then p ⟨i, low⟩ else false).map fun i => 2 ^ i).sum := by
    rw [← vals, List.map_map]
    rfl
  obtain ⟨low, bits⟩ := testBit_sum_two_pow (fun i => if low : i < 12 then p ⟨i, low⟩ else false) 12
  rw [same]
  exact ⟨low, fun z => (bits z.val z.isLt).trans (by simp)⟩

theorem zonesOf_eq_filter (s : State) (sh : Shot) :
    s.zonesOf sh = (List.finRange 12).filter fun z => decide (z ∈ s.zonesOf sh) := by
  unfold State.zonesOf
  cases s.recipe with
  | none => simp
  | some r =>
    refine List.filter_congr fun z _ => ?_
    rw [Bool.eq_iff_iff, decide_eq_true_eq, List.mem_filter]
    exact ⟨fun h => ⟨List.mem_finRange z, h⟩, fun h => h.2⟩

/-- The zones a held close waits for, as its reply carries them (R109, R180). -/
theorem notReadyMask (there : s.shc.assembling = some sh) : zoneMask s.notReadyZones < 4096 ∧
    ∀ z : Fin 12, (zoneMask s.notReadyZones).testBit z.val = true ↔ s.Needs sh z ∧ (s.zct.zones.get z).ready = false := by
  have zones : s.notReadyZones =
      (List.finRange 12).filter fun z => decide (z ∈ s.zonesOf sh) && !(s.zct.zones.get z).ready := by
    rw [State.notReadyZones, there]
    dsimp only
    rw [zonesOf_eq_filter, List.filter_filter]
    simp [Bool.and_comm]
  rw [zones]
  obtain ⟨low, bits⟩ := zoneMask_filter fun z => decide (z ∈ s.zonesOf sh) && !(s.zct.zones.get z).ready
  refine ⟨low, fun z => ?_⟩
  rw [bits z]
  simp [State.mem_zonesOf]

theorem holdMet_iff (there : s.shc.assembling = some sh) : s.holdMet = true ↔
    s.dmi.holder ≠ .handler ∧ (∀ z, s.Needs sh z → (s.zct.zones.get z).ready = true) ∧ s.hbo.throttle = .normal := by
  simp [State.holdMet, State.notReadyZones, there, State.mem_zonesOf, and_assoc]

/-! ### The refusals, in their order -/

theorem Cavity.overdue_iff {c : Cavity} {now : Nat} :
    c.overdue now = true ↔ ∃ h, c.charge = some h ∧ h.outDeadline ≤ now := by
  unfold Cavity.overdue
  cases c.charge <;> simp

theorem closeRefusal_noShot (h : s.shc.assembling = none ∨ s.shc.press.isSome) :
    s.closeRefusal = some (.bare .badState, .badState none) := by
  unfold State.closeRefusal
  cases there : s.shc.assembling with
  | none => rfl
  | some sh => exact if_pos (h.resolve_left (by simp [there]))

/-- The refusal of a close beside no press-side shot, where a cavity is not LOADED (R109). -/
theorem closeRefusal_notLoaded {k : Fin 4} (there : s.shc.assembling = some sh) (press : s.shc.press = none)
    (first : sh.notLoaded = some k) : s.closeRefusal = some (.named .badState k.val, .badState (some k.val)) := by
  simp [State.closeRefusal, there, press, first]

theorem closeRefusal_overdue {k : Fin 4} (there : s.shc.assembling = some sh) (press : s.shc.press = none)
    (loaded : sh.notLoaded = none) (first : sh.firstOverdue s.clock = some k) :
    s.closeRefusal = some (.named .chargeExpired k.val, .chargeExpired k.val) := by
  simp [State.closeRefusal, there, press, loaded, first]

theorem closeRefusal_off {z : Fin 12} (there : s.shc.assembling = some sh) (press : s.shc.press = none)
    (loaded : sh.notLoaded = none) (timely : sh.firstOverdue s.clock = none) (first : s.neededIn sh .off = some z) :
    s.closeRefusal = some (.named .zoneNotActive z.val, .zoneNotActive z.val) := by
  simp [State.closeRefusal, there, press, loaded, timely, first]

theorem closeRefusal_fault {z : Fin 12} (there : s.shc.assembling = some sh) (press : s.shc.press = none)
    (loaded : sh.notLoaded = none) (timely : sh.firstOverdue s.clock = none) (active : s.neededIn sh .off = none)
    (first : s.neededIn sh .fault = some z) : s.closeRefusal = some (.named .zoneFault z.val, .zoneFault z.val) := by
  simp [State.closeRefusal, there, press, loaded, timely, active, first]

theorem closeRefusal_none (there : s.shc.assembling = some sh) (press : s.shc.press = none)
    (loaded : sh.notLoaded = none) (timely : sh.firstOverdue s.clock = none) (active : s.neededIn sh .off = none)
    (sound : s.neededIn sh .fault = none) : s.closeRefusal = none := by
  simp [State.closeRefusal, there, press, loaded, timely, active, sound]

/-! ### CLOSE and the held close -/

theorem close_refused {a : Answer} {why : CloseOutcome} (refused : s.closeRefusal = some (a, why)) : close s = (s, a) := by
  rw [close, refused]

theorem reexamine_refused {a : Answer} {why : CloseOutcome} {h : HeldClose} (held : s.shc.heldClose = some h)
    (refused : s.closeRefusal = some (a, why)) : reexamine s = endClose why s := by
  rw [reexamine, held, refused]

theorem reexamine_granted {h : HeldClose} (held : s.shc.heldClose = some h) (allowed : s.closeRefusal = none)
    (met : s.holdMet = true) : reexamine s = setNotice .press (.closeGranted h.shot) (grantClose s) := by
  rw [reexamine, held, allowed]
  exact if_pos met

theorem reexamine_waits (allowed : s.closeRefusal = none) (unmet : ¬ s.holdMet = true) : reexamine s = s := by
  unfold reexamine
  cases s.shc.heldClose with
  | none => rfl
  | some h => rw [allowed]; exact if_neg unmet

theorem grantClose_of (there : s.shc.assembling = some sh) : grantClose s = { s with
    dmi := { s.dmi with holder := .press }
    shc := { s.shc with
      assembling := none, heldClose := none
      press := some { sh with phase := .closing, times := { sh.times with closeGrant := some s.clock } } }
    ports := { s.ports with closeOutcome := some .granted } } := by
  rw [grantClose, there]

theorem examineDeadlines_due (held : s.shc.heldClose.isSome) (there : s.shc.assembling = some sh)
    (due : (sh.firstOverdue s.clock).isSome) : examineDeadlines s = reexamine s := by
  simp [examineDeadlines, State.closeOverdue, held, there, due]

theorem examineDeadlines_timely (there : s.shc.assembling = some sh) (timely : sh.firstOverdue s.clock = none) :
    examineDeadlines s = s := by
  simp [examineDeadlines, State.closeOverdue, there, timely]

/-- Settles O51. -/
theorem closeIsGrantedHeldOrRefused : Obligations.CloseIsGrantedHeldOrRefused := by
  intro s sh request granted ended refusedWith overdue met holder throttle heldWith
  have asked : request = .next (s.replied .press (close s).2 (close s).1) := exec_asked (i := .close .press) rfl
  have withdrawn := exec_asked (i := .withdrawClose .press) (s := s) (owner := withdrawClose) rfl
  have deadline : exec .loadedChargeDeadline s = .next (examineDeadlines s) := rfl
  have refuses {a : Answer} {why : CloseOutcome} (refused : s.closeRefusal = some (a, why)) : refusedWith a why :=
    ⟨by rw [asked, close_refused refused], fun h held => (reexamine_refused held refused).trans (endClose_some why held)⟩
  refine ⟨fun h => refuses (closeRefusal_noShot h), fun there press => ⟨fun k c held unloaded before => ?_, fun loaded => ?_⟩,
    fun unheld => ⟨?_, ?_, reexamine_none unheld⟩, fun h held => ?_⟩
  · exact refuses (closeRefusal_notLoaded there press (Shot.notLoaded_of held unloaded before))
  · have all := Shot.notLoaded_none loaded
    refine ⟨fun k c held due before => ?_, fun onTime => ?_⟩
    · have found : sh.firstOverdue s.clock = some k := Shot.firstOverdue_of held (Cavity.overdue_iff.mpr due)
        fun j d has low => Cavity.overdue_iff.not.mpr (before j d has low)
      have refused := refuses (closeRefusal_overdue there press all found)
      refine ⟨refused, fun h waits => ?_⟩
      rw [deadline, examineDeadlines_due (by simp [waits]) there (by simp [found]), refused.2 h waits]
    · have timely : sh.firstOverdue s.clock = none :=
        Shot.firstOverdue_none fun k c has => Cavity.overdue_iff.not.mpr (onTime k c has)
      refine ⟨by rw [deadline, examineDeadlines_timely there timely], fun z needed off before => ?_, fun active => ?_⟩
      · exact refuses (closeRefusal_off there press all timely (State.neededIn_of needed off before))
      · have on := State.neededIn_none active
        refine ⟨fun z needed fault before => ?_, fun sound => ?_⟩
        · exact refuses (closeRefusal_fault there press all timely on (State.neededIn_of needed fault before))
        · have allowed := closeRefusal_none there press all timely on (State.neededIn_none sound)
          have conditions : s.holdMet = true ↔ met := holdMet_iff there
          have waits {t : State} (held : close s = (t, ⟨.held, s.holdFields⟩)) : heldWith t := by
            obtain ⟨low, bits⟩ := notReadyMask there
            refine ⟨zoneMask s.notReadyZones, low, bits, ?_⟩
            rw [asked, held, State.holdFields]
            rfl
          refine ⟨fun unheld good => ?_, fun unheld bad => ?_, fun h held => ⟨?_, fun good => ?_, fun bad => ?_⟩⟩
          · rw [asked, close, allowed]
            simp only [unheld, if_pos (conditions.mpr good), grantClose_of there]
            rfl
          · refine waits ?_
            rw [close, allowed]
            simp only [unheld, if_neg (conditions.not.mpr bad), holdClose, there]
            rfl
          · refine waits ?_
            rw [close, allowed]
            simp only [held]
            rfl
          · rw [reexamine_granted held allowed (conditions.mpr good), grantClose_of there]
          · exact reexamine_waits allowed (conditions.not.mpr bad)
  · rw [withdrawn, withdrawClose, unheld]
    rfl
  · have quiet : s.closeOverdue = false := by rw [State.closeOverdue, unheld]; rfl
    rw [deadline, examineDeadlines, quiet]
    rfl
  · rw [withdrawn, withdrawClose, if_pos (by simp [held]), endClose_some _ held]

end Sys2Proof.Machine
end

section
/-! PROOFS. The press's reports and the start of cure (R113, R114, R123). -/

namespace Sys2Proof.Machine

variable {s : State} {sh : Shot}

/-! ### The enabled cavities in order -/

theorem Shot.mem_enabled {x : Fin 4 × Cavity} : x ∈ sh.enabled ↔ sh.Holds x.1 x.2 := by
  obtain ⟨k, c⟩ := x
  simp only [Shot.enabled, List.mem_filterMap, List.mem_finRange, true_and, Option.map_eq_some_iff, Prod.mk.injEq, Shot.Holds]
  constructor
  · rintro ⟨_, _, held, rfl, rfl⟩
    exact held
  · exact fun held => ⟨k, c, held, rfl, rfl⟩

theorem Shot.enabled_cavities (sh : Shot) :
    sh.enabled.map Prod.fst = (List.finRange 4).filter fun k => (sh.cavities.get k).isSome := by
  rw [Shot.enabled, List.map_filterMap]
  rw [← List.filterMap_eq_filter]
  refine List.filterMap_congr fun k _ => ?_
  cases h : sh.cavities.get k <;> simp [Option.guard, h]

theorem Shot.mem_enabled_cavities {k : Fin 4} : k ∈ sh.enabled.map Prod.fst ↔ (sh.cavities.get k).isSome := by
  simp [Shot.enabled_cavities]

theorem Shot.enabled_ascending (sh : Shot) : (sh.enabled.map Prod.fst).Pairwise (· < ·) := by
  rw [Shot.enabled_cavities]
  exact (List.pairwise_lt_finRange 4).sublist List.filter_sublist

/-- The place of an entry in an ascending list is the count of those below it. -/
theorem idxOf_eq_length_below {n : Nat} {l : List (Fin n)} {k : Fin n} (ascending : l.Pairwise (· < ·)) (mem : k ∈ l) :
    l.idxOf k = (l.filter fun j => decide (j < k)).length := by
  induction l with
  | nil => cases mem
  | cons a rest ih =>
    obtain ⟨least, others⟩ := List.pairwise_cons.mp ascending
    by_cases here : a = k
    · subst here
      have none : rest.filter (fun j => decide (j < a)) = [] := by
        simpa using fun j m => (least j m).le
      simp [none]
    · have later : k ∈ rest := (List.mem_cons.mp mem).resolve_left (Ne.symm here)
      rw [List.idxOf_cons_ne _ here, ih others later, List.filter_cons_of_pos (by simpa using least k later)]
      rfl

theorem Shot.idxOf_enabled {k : Fin 4} (mem : k ∈ sh.enabled.map Prod.fst) : (sh.enabled.map Prod.fst).idxOf k =
    ((List.finRange 4).filter fun j => decide (j < k) && (sh.cavities.get j).isSome).length := by
  rw [idxOf_eq_length_below sh.enabled_ascending mem, Shot.enabled_cavities, List.filter_filter]

/-! ### The parts' numbers -/

/-- The part number of a shot's cavity, 0 where it has none. -/
def Shot.partAt (sh : Shot) (k : Fin 4) : Nat :=
  ((sh.cavities.get k).bind fun c => c.part).getD 0

theorem Shot.modifyCavity_get_ne {k j : Fin 4} (f : Cavity → Cavity) (ne : j ≠ k) :
    (sh.modifyCavity k f).cavities.get j = sh.cavities.get j :=
  Table.get_modify_ne _ _ ne

theorem Shot.modifyCavity_get_self (sh : Shot) (k : Fin 4) (f : Cavity → Cavity) :
    (sh.modifyCavity k f).cavities.get k = (sh.cavities.get k).map f :=
  Table.get_modify_self ..

/-- The state with one part number issued (R114). -/
def State.nextPart (s : State) : State :=
  { (fitWord (s.shc.partCounter + 1) s).2 with
    shc := { (fitWord (s.shc.partCounter + 1) s).2.shc with partCounter := (fitWord (s.shc.partCounter + 1) s).1 } }

/-- A shot with one cavity's cure started under the next part number (R114). -/
def Shot.startPart (sh : Shot) (k : Fin 4) (s : State) : Shot :=
  sh.modifyCavity k fun c => c.startCure s.shc.partCounter s.shc.station

theorem startParts_cons (k : Fin 4) (rest : List (Fin 4)) (sh : Shot) (s : State) :
    startParts (k :: rest) sh s =
      let r := startParts rest (sh.startPart k s) s.nextPart
      (r.1, r.2.1, s.shc.partCounter :: r.2.2) := rfl

theorem State.nextPart_eq (s : State) : s.nextPart = { s with
    shc := { s.shc with partCounter := s.nextPart.shc.partCounter }, freeCount := s.nextPart.freeCount } := by
  unfold State.nextPart
  rw [fitWord_state]

theorem State.nextPart_fits (s : State) : Fits32 (s.shc.partCounter + 1) s.freeCount s.nextPart.shc.partCounter
    s.nextPart.freeCount :=
  fitWord_fits _ s

@[simp] theorem State.nextPart_station (s : State) : s.nextPart.shc.station = s.shc.station := by
  rw [State.nextPart_eq]

/-- What the start of the parts leaves alone: all of the shot but its cavities, all of the state but the part counter
(R114; log entry 3). -/
theorem startParts_frame (ks : List (Fin 4)) (sh : Shot) (s : State) : ∃ counter free cavities,
    (startParts ks sh s).1 = { sh with cavities := cavities } ∧
    (startParts ks sh s).2.1 = { s with shc := { s.shc with partCounter := counter }, freeCount := free } ∧
    (s.shc.partCounter + ks.length ≤ Config.maxWord → counter = s.shc.partCounter + ks.length ∧ free = s.freeCount) := by
  induction ks generalizing sh s with
  | nil => exact ⟨_, _, _, rfl, rfl, fun _ => ⟨rfl, rfl⟩⟩
  | cons k rest ih =>
    obtain ⟨counter, free, cavities, shot, state, fits⟩ := ih (sh.startPart k s) s.nextPart
    refine ⟨counter, free, cavities, shot, ?_, fun room => ?_⟩
    · refine state.trans ?_
      rw [State.nextPart_eq]
    · rw [List.length_cons] at room ⊢
      obtain ⟨next, count⟩ := s.nextPart_fits (by omega)
      have after := fits (by omega)
      omega

/-- The cavities that start their cure, each under the next part number (R114). -/
theorem startParts_parts {ks : List (Fin 4)} (distinct : ks.Nodup) (sh : Shot) (s : State) :
    let t := (startParts ks sh s).1
    (∀ k, k ∉ ks → t.cavities.get k = sh.cavities.get k) ∧
    (∀ k ∈ ks, ∃ part, t.cavities.get k = (sh.cavities.get k).map (fun c => c.startCure part s.shc.station) ∧
      (s.shc.partCounter + ks.length ≤ Config.maxWord → part = s.shc.partCounter + ks.idxOf k)) ∧
    ((∀ k ∈ ks, (sh.cavities.get k).isSome) → (startParts ks sh s).2.2 = ks.map t.partAt) := by
  induction ks generalizing sh s with
  | nil => exact ⟨fun _ _ => rfl, nofun, fun _ => rfl⟩
  | cons k rest ih =>
    obtain ⟨apart, distinct⟩ := List.nodup_cons.mp distinct
    obtain ⟨left, started, numbers⟩ := ih distinct (sh.startPart k s) s.nextPart
    have other {j : Fin 4} (ne : j ≠ k) : (sh.startPart k s).cavities.get j = sh.cavities.get j :=
      Shot.modifyCavity_get_ne _ ne
    have here := (left k apart).trans (sh.modifyCavity_get_self k _)
    rw [startParts_cons]
    refine ⟨fun j out => ?_, fun j mem => ?_, fun enabled => ?_⟩
    · rw [List.mem_cons, not_or] at out
      exact (left j out.2).trans (other out.1)
    · by_cases e : j = k
      · subst e
        exact ⟨s.shc.partCounter, here, fun _ => by simp⟩
      · have later : j ∈ rest := (List.mem_cons.mp mem).resolve_left e
        obtain ⟨part, cavity, fits⟩ := started j later
        refine ⟨part, cavity.trans (by rw [other e, State.nextPart_station]), fun room => ?_⟩
        rw [List.length_cons] at room
        obtain ⟨next, -⟩ := s.nextPart_fits (by omega)
        rw [fits (by omega), next, List.idxOf_cons_ne _ (Ne.symm e)]
        omega
    · have later : ∀ j ∈ rest, ((sh.startPart k s).cavities.get j).isSome := fun j mem => by
        rw [other fun e => apart (e ▸ mem)]
        exact enabled j (List.mem_cons_of_mem _ mem)
      obtain ⟨c, held⟩ := Option.isSome_iff_exists.mp (enabled k (by simp))
      have first : (startParts rest (sh.startPart k s) s.nextPart).1.partAt k = s.shc.partCounter := by
        rw [Shot.partAt, here, held]
        rfl
      rw [List.map_cons, first]
      exact congrArg _ (numbers later)

/-! ### The start of cure -/

/-- A cavity at the start of its cure (R114, R123). -/
def Cavity.cured (c : Cavity) (short : Bool) (now part station : Nat) : Cavity :=
  (c.flagAtCure short now).startCure part station

/-- What the start of cure leaves: the words of the statement, for a shot whose closing time is recorded (R114, R123). -/
theorem startCure_spec {r : Recipe} (mounted : s.recipe = some r) (sh : Shot) : ∃ t sh',
    startCure sh s = (t, ⟨.ok, be 1 1 ++ beList (sh'.enabled.map fun x => be 4 (x.2.part.getD 0))⟩) ∧
    t.shc = { s.shc with press := some sh', partCounter := t.shc.partCounter } ∧
    sh' = { sh with
      phase := .curing, cavities := sh'.cavities, times := { sh.times with cureStart := some s.clock } } ∧
    (∀ k, sh.cavities.get k = none → sh'.cavities.get k = none) ∧
    (∀ k c, sh.Holds k c → ∃ part,
      sh'.Holds k (c.cured (decide (sh.bumps < r.bumpCount)) s.clock part s.shc.station) ∧
      (s.shc.partCounter + 4 ≤ Config.maxWord → part = s.shc.partCounter + ((List.finRange 4).filter fun j =>
        decide (j < k) && (sh.cavities.get j).isSome).length)) ∧
    (s.shc.partCounter + 4 ≤ Config.maxWord → t.freeCount = s.freeCount ∧
      t.shc.partCounter = s.shc.partCounter + sh.enabled.length) ∧
    { t with shc := s.shc, freeCount := s.freeCount } = s := by
  let flagged := sh.mapEnabled fun _ c => c.flagAtCure (decide (sh.bumps < r.bumpCount)) s.clock
  let ks := sh.enabled.map Prod.fst
  have flags (k : Fin 4) : flagged.cavities.get k =
      (sh.cavities.get k).map fun c => c.flagAtCure (decide (sh.bumps < r.bumpCount)) s.clock := Table.get_mapIdx ..
  obtain ⟨counter, free, cavities, shot, state, fits⟩ := startParts_frame ks flagged s
  have distinct : ks.Nodup := sh.enabled_ascending.imp fun h => h.ne
  obtain ⟨left, started, numbers⟩ := startParts_parts distinct flagged s
  have four : ks.length ≤ 4 := by
    simp only [ks, Shot.enabled_cavities]
    exact (List.length_filter_le ..).trans (List.length_finRange).le
  let sh' : Shot := { (startParts ks flagged s).1 with
    phase := .curing, times := { (startParts ks flagged s).1.times with cureStart := some s.clock } }
  have part {k : Fin 4} {c : Cavity} (held : sh.Holds k c) : ∃ part,
      sh'.Holds k (c.cured (decide (sh.bumps < r.bumpCount)) s.clock part s.shc.station) ∧
      (s.shc.partCounter + 4 ≤ Config.maxWord → part = s.shc.partCounter + ((List.finRange 4).filter fun j =>
        decide (j < k) && (sh.cavities.get j).isSome).length) := by
    have mem : k ∈ ks := Shot.mem_enabled_cavities.mpr (by rw [show sh.cavities.get k = some c from held]; rfl)
    obtain ⟨part, cavity, number⟩ := started k mem
    refine ⟨part, cavity.trans ?_, fun room => ?_⟩
    · rw [flags, show sh.cavities.get k = some c from held]
      rfl
    · rw [number (by omega), Shot.idxOf_enabled mem]
  have none {k : Fin 4} (absent : sh.cavities.get k = none) : sh'.cavities.get k = none := by
    have out : k ∉ ks := by simp [ks, Shot.mem_enabled_cavities, absent]
    exact (left k out).trans (by rw [flags, absent]; rfl)
  have same : sh'.enabled.map Prod.fst = ks := by
    rw [Shot.enabled_cavities]
    simp only [ks, Shot.enabled_cavities]
    refine List.filter_congr fun k _ => ?_
    cases held : sh.cavities.get k with
    | none => rw [none held]
    | some c => obtain ⟨_, holds, -⟩ := part held; rw [holds]; rfl
  have reply : (startParts ks flagged s).2.2 = sh'.enabled.map fun x => x.2.part.getD 0 := by
    have each : (startParts ks flagged s).2.2 = ks.map sh'.partAt := numbers fun k mem => by
      rw [flags, Option.isSome_map]
      exact Shot.mem_enabled_cavities.mp mem
    rw [each, ← same, List.map_map]
    refine List.map_congr_left fun x mem => ?_
    rw [Function.comp, Shot.partAt, show sh'.cavities.get x.1 = some x.2 from Shot.mem_enabled.mp mem]
    rfl
  have begun : startCure sh s =
      ((startParts ks flagged s).2.1.setPress sh', pressureReply (some (startParts ks flagged s).2.2)) := by
    rw [startCure, mounted]
    rfl
  rw [begun, reply, state]
  refine ⟨_, sh', Prod.ext rfl ?_, rfl, ?_, fun k absent => none absent, fun k c held => part held, fun room => ?_, rfl⟩
  · rw [pressureReply, Option.getD_some, List.map_map]
    rfl
  · simp only [sh', shot]
    rfl
  · obtain ⟨count, free⟩ := fits (by omega)
    exact ⟨free, by rw [← List.length_map Prod.fst]; exact count⟩

/-! ### The reports -/

theorem pressReport_refused {f : Shot → State × Answer} (h : s.shc.press = none ∨ s.dmi.holder ≠ .press) :
    pressReport f s = (s, .bare .badState) := by
  unfold pressReport
  cases there : s.shc.press with
  | none => rfl
  | some sh => exact if_neg (h.resolve_left (by simp [there]))

theorem pressReport_of {f : Shot → State × Answer} (there : s.shc.press = some sh) (press : s.dmi.holder = .press) :
    pressReport f s = f sh := by
  unfold pressReport
  rw [there]
  exact if_pos press

theorem closed_other (there : s.shc.press = some sh) (press : s.dmi.holder = .press) (phase : sh.phase ≠ .closing) :
    closed s = (s, .bare .ok) := by
  rw [closed, pressReport_of there press]
  split
  · contradiction
  all_goals rfl

theorem bump_other (there : s.shc.press = some sh) (press : s.dmi.holder = .press) (notClosing : sh.phase ≠ .closing)
    (notBumping : sh.phase ≠ .bumping) : bump s = (s, .bare .ok) := by
  rw [bump, pressReport_of there press]
  split
  · contradiction
  · contradiction
  all_goals rfl

theorem bump_counts (there : s.shc.press = some sh) (press : s.dmi.holder = .press)
    (phase : sh.phase = .closing ∨ sh.phase = .bumping) : bump s = ({ s with shc := { s.shc with press := some { sh with
      phase := .bumping, bumps := min 255 (sh.bumps + 1)
      times := { sh.times with closing := if sh.phase = .closing then some s.clock else sh.times.closing } } } },
      .bare .ok) := by
  rw [bump, pressReport_of there press]
  rcases phase with phase | phase
  · simp only [phase]
    rfl
  · have same : sh = { sh with phase := .bumping } := by rw [← phase]
    simp only [phase]
    rw [same]
    rfl

theorem pressure_other (there : s.shc.press = some sh) (press : s.dmi.holder = .press) (notClosing : sh.phase ≠ .closing)
    (notBumping : sh.phase ≠ .bumping) : pressure s = (s, pressureReply none) := by
  rw [pressure, pressReport_of there press]
  split
  · contradiction
  · contradiction
  all_goals rfl

/-- The shot whose cure PRESSURE starts, its closing time recorded (R113, R114). -/
theorem pressure_starts (there : s.shc.press = some sh) (press : s.dmi.holder = .press)
    (phase : sh.phase = .closing ∨ sh.phase = .bumping) : pressure s = startCure { sh with
      phase := .bumping
      times := { sh.times with closing := if sh.phase = .closing then some s.clock else sh.times.closing } } s := by
  rw [pressure, pressReport_of there press]
  rcases phase with phase | phase
  · simp only [phase]
    rfl
  · have same : sh = { sh with phase := .bumping } := by rw [← phase]
    simp only [phase]
    rw [same]
    rfl

/-- Settles O52. -/
theorem pressReportsLeadToCure : Obligations.PressReportsLeadToCure := by
  intro s said
  have closedAsked := exec_asked (i := .closed .press) (s := s) (owner := closed) rfl
  have bumpAsked := exec_asked (i := .bump .press) (s := s) (owner := bump) rfl
  have pressureAsked := exec_asked (i := .pressure .press) (s := s) (owner := pressure) rfl
  refine ⟨fun h => ?_, fun sh there press => ⟨fun phase => ?_, fun notClosing notBumping => ?_, fun phase => ?_,
    fun phase => ?_, fun r phase mounted => ?_⟩⟩
  · simp only [said, closedAsked, bumpAsked, pressureAsked, closed, bump, pressure, pressReport_refused h, and_self]
  · simp only [said]
    rw [closedAsked, closed_other there press phase]
  · simp only [said]
    rw [bumpAsked, pressureAsked, bump_other there press notClosing notBumping,
      pressure_other there press notClosing notBumping]
    exact ⟨rfl, rfl⟩
  · rw [closedAsked, closed, pressReport_of there press, phase]
    rfl
  · rw [bumpAsked, bump_counts there press phase]
  · rw [pressureAsked, pressure_starts there press phase]
    obtain ⟨t, sh', begun, shc, shot, absent, parts, counted, rest⟩ := startCure_spec mounted { sh with
      phase := .bumping
      times := { sh.times with closing := if sh.phase = .closing then some s.clock else sh.times.closing } }
    rw [begun]
    refine ⟨t, sh', rfl, shc, shot, absent, fun k c held => ?_, counted, rest⟩
    obtain ⟨part, holds, number⟩ := parts k c held
    have overdue : c.overdue s.clock = decide (∃ h, c.charge = some h ∧ h.outDeadline ≤ s.clock) := by
      rw [Bool.eq_iff_iff, Cavity.overdue_iff, decide_eq_true_iff]
    refine ⟨part, ?_, number⟩
    rw [← overdue]
    exact holds

end Sys2Proof.Machine
end

section
/-! PROOFS. The mould-space lock and the ejection (R136 to R144). -/

namespace Sys2Proof.Machine

variable {s : State} {sh : Shot}

/-! ### The open mould -/

theorem pressIn_of {ph : Phase} (there : s.shc.press = some sh) (phase : sh.phase = ph) : s.pressIn ph = some sh := by
  simp [State.pressIn, there, phase]

theorem pressIn_none {ph : Phase} (other : ∀ sh, s.shc.press = some sh → sh.phase ≠ ph) : s.pressIn ph = none := by
  cases there : s.shc.press with
  | none => simp [State.pressIn, there]
  | some sh => simp [State.pressIn, there, other sh there]

theorem Cavity.untaken_eq (c : Cavity) : c.untaken = decide (c.state = .curing ∨ c.state = .stuck) := by
  rw [Bool.eq_iff_iff]
  simp [Cavity.untaken]

/-- A shot with a flag of its untaken cavities changed (R139, R148). -/
def Shot.flagged (sh : Shot) (f : CavityFlags → CavityFlags) : Shot :=
  { sh with cavities := Table.ofFn fun k => (sh.cavities.get k).map fun c =>
      if decide (c.state = .curing ∨ c.state = .stuck) then { c with flags := f c.flags } else c }

theorem flagUntaken_of (there : s.shc.press = some sh) (phase : sh.phase = .opened) (f : CavityFlags → CavityFlags) :
    flagUntaken f s = { s with shc := { s.shc with press := some (sh.flagged f) } } := by
  simp only [flagUntaken, pressIn_of there phase, Shot.flagged, ← Cavity.untaken_eq]
  rfl

theorem flagUntaken_none (other : ∀ sh, s.shc.press = some sh → sh.phase ≠ .opened) (f : CavityFlags → CavityFlags) :
    flagUntaken f s = s := by
  rw [flagUntaken, pressIn_none other]

theorem untakenCavities_of (there : s.shc.press = some sh) (phase : sh.phase = .opened) : s.untakenCavities =
    (sh.enabled.filter fun x => decide (x.2.state = .curing ∨ x.2.state = .stuck)).map Prod.fst := by
  simp only [State.untakenCavities, pressIn_of there phase, ← Cavity.untaken_eq]

theorem untakenCavities_none (other : ∀ sh, s.shc.press = some sh → sh.phase ≠ .opened) : s.untakenCavities = [] := by
  rw [State.untakenCavities, pressIn_none other]

/-- The state in which a held close is examined after the lock is taken back (R139). -/
theorem reclaim_eq (s : State) : reclaim s = reexamine (setNotice .handler
    (.lockReclaimed s.clock s.untakenCavities.length)
    (flagUntaken (fun f => { f with forcedRelease := true }) (endEject .reclaimed (handlerLetsGo s)))) := rfl

/-- Settles O57. -/
theorem theLockPassesBetweenTheParties : Obligations.TheLockPassesBetweenTheParties := by
  intro s claim release recl letGo
  have claimed : claim = .next (s.replied .handler (zoneClaim s).2 (zoneClaim s).1) :=
    exec_asked (i := .zoneClaim .handler) rfl
  have released : release = .next (s.replied .handler (zoneRelease s).2 (zoneRelease s).1) :=
    exec_asked (i := .zoneRelease .handler) rfl
  have reclaimed : recl = .next (s.replied .press (zoneReclaim s).2 (zoneReclaim s).1) :=
    exec_asked (i := .zoneReclaim .press) rfl
  refine ⟨fun free => ⟨?_, ?_⟩, fun handler => ⟨?_, ?_⟩, fun press => ⟨?_, ?_⟩, fun other => ?_, fun handler => ?_⟩
  · rw [claimed, zoneClaim, free]
    rfl
  · rw [released, zoneRelease, free]
  · rw [claimed, zoneClaim, handler]
  · rw [released, zoneRelease, handler]
    rfl
  · rw [claimed, zoneClaim, press]
    dsimp only
    by_cases pending : s.dmi.claim.isSome = true
    · obtain ⟨second, pending⟩ := Option.isSome_iff_exists.mp pending
      have same : some (s.dmi.claim.getD s.clock) = s.dmi.claim := by rw [pending]; rfl
      rw [if_pos (by rw [pending]; rfl), same]
    · have none : s.dmi.claim = none := by simpa using pending
      rw [if_neg pending, none]
      rfl
  · rw [released, zoneRelease, press]
    simp only [endClaim_eq]
  · rw [reclaimed, zoneReclaim, if_neg other]
  · intro left flag
    rw [reclaimed, zoneReclaim, if_pos handler, reclaim_eq, endEject_eq]
    have held : (handlerLetsGo s).dmi.demould.any (fun d => d.heldEject) = s.dmi.demould.any fun d => d.heldEject := by
      simp only [handlerLetsGo, Option.any_map]
    rw [held]
    by_cases open_ : ∃ sh, s.shc.press = some sh ∧ sh.phase = .opened
    · obtain ⟨sh, there, phase⟩ := open_
      rw [flagUntaken_of (by exact there) phase, untakenCavities_of there phase, List.length_map]
      refine ⟨_, rfl, rfl, rfl, fun sh' there' _ => ?_, fun other => absurd phase (other sh there), rfl⟩
      obtain rfl : sh' = sh := Option.some.inj (there'.symm.trans there)
      exact ⟨PortState.join_newest .., rfl⟩
    · have other (sh : Shot) (there : s.shc.press = some sh) : sh.phase ≠ .opened := fun phase => open_ ⟨sh, there, phase⟩
      rw [flagUntaken_none (by exact other), untakenCavities_none other]
      exact ⟨_, rfl, rfl, rfl, fun sh there phase => absurd phase (other sh there),
        fun _ => ⟨PortState.join_newest .., rfl⟩, rfl⟩

/-! ### The ejection -/

theorem opening_of {d : Demould} (there : s.shc.press = some sh) (phase : sh.phase = .opened)
    (demould : s.dmi.demould = some d) : s.opening = some (sh, d) := by
  rw [State.opening, pressIn_of there phase, demould]

theorem opening_none (h : (∀ sh, s.shc.press = some sh → sh.phase ≠ .opened) ∨ s.dmi.demould = none) :
    s.opening = none := by
  rw [State.opening]
  rcases h with other | none
  · rw [pressIn_none other]
  · rw [none]
    cases s.pressIn .opened <;> rfl

theorem engage_quiet {d : Demould} (unheld : d.heldEject = false) : engage sh d s =
    s.setDemould { d with engaged := true, engageMark := d.count } := by
  simp only [engage, unheld, Bool.or_false, Bool.false_eq_true, if_false]

theorem engage_grants {d : Demould} (held : d.heldEject = true) : engage sh d s = setNotice .press (.ejectGranted sh.number)
    { s.setDemould { d with engaged := true, engageMark := d.count, grant := true, heldEject := false } with
      ports := { s.ports with ejectOutcome := some .granted } } := by
  simp only [engage, held, Bool.or_true, if_true]

/-- Settles O58. -/
theorem ejectionWaitsForEngaged : Obligations.EjectionWaitsForEngaged := by
  intro s engage_ ej done
  have engages : engage_ = .next (s.replied .handler (engaged s).2 (engaged s).1) :=
    exec_asked (i := .engaged .handler) rfl
  have ejects : ej = .next (s.replied .press (eject s).2 (eject s).1) := exec_asked (i := .eject .press) rfl
  have reports : done = .next (s.replied .press (ejected s).2 (ejected s).1) := exec_asked (i := .ejected .press) rfl
  refine ⟨fun h => ?_, fun sh d there phase demould => ?_⟩
  · rw [engages, ejects, reports, engaged, eject, ejected, opening_none h]
    exact ⟨rfl, rfl, rfl⟩
  · intro withDemould
    have open_ := opening_of there phase demould
    refine ⟨fun other => ?_, fun handler on => ?_, fun handler off unheld => ?_, fun handler off held => ?_, fun most => ?_,
      fun room grant => ?_, fun room none on => ?_, fun room none off => ?_, fun none => ?_, fun grant => ?_⟩
    · rw [engages, engaged, open_]
      simp only [if_neg other]
    · rw [engages, engaged, open_]
      simp only [if_pos handler, if_pos on]
    · rw [engages, engaged, open_]
      simp only [if_pos handler, off, engage_quiet unheld]
      rfl
    · rw [engages, engaged, open_]
      simp only [if_pos handler, off, engage_grants held]
      exact ⟨_, rfl, rfl, rfl, PortState.join_newest .., rfl⟩
    · rw [ejects, eject, open_]
      simp only [if_pos most]
    · rw [ejects, eject, open_]
      simp only [if_neg (Nat.not_le.mpr room), if_pos grant]
    · rw [ejects, eject, open_]
      simp only [if_neg (Nat.not_le.mpr room), none, if_pos on]
      rfl
    · rw [ejects, eject, open_]
      dsimp only
      rw [if_neg (Nat.not_le.mpr room), if_neg (by simp [none]), if_neg (by simp [off])]
      by_cases held : d.heldEject = true
      · have same : { d with heldEject := true } = d := by rw [← held]
        rw [if_pos held, same]
        simp only [withDemould, ← demould]
      · rw [if_neg held]
        rfl
    · rw [reports, ejected, open_]
      simp only [none]
      rfl
    · rw [reports, ejected, open_]
      simp only [if_pos grant]
      rfl

end Sys2Proof.Machine
end

section
/-! PROOFS. The history ring's own requests (R154, R155, R158, R162 to R165). -/

namespace Sys2Proof.Machine

variable {s : State}

/-- What a comparison of the available count and a reply at the trace port leave of the state `u` they find: the words of the
statement (R154, R167). -/
def State.ComparedFrom (u t : State) : Prop :=
  t.hrg = { u.hrg with below := decide (u.available < u.hrg.lowMark) } ∧
    (u.available < u.hrg.lowMark → u.hrg.below = false →
      t.Newest .press (.historyLow u.available u.newest u.oldest) ∧
      t.Newest .trace (.historyLow u.available u.newest u.oldest)) ∧
    (u.hrg.lowMark ≤ u.available ∨ u.hrg.below = true →
      t.ports.press.notices = u.ports.press.notices ∧ t.ports.trace.notices = u.ports.trace.notices) ∧
    t.ports.charge = u.ports.charge ∧ t.ports.handler = u.ports.handler ∧ { t with hrg := u.hrg, ports := u.ports } = u

theorem comparedFrom_compareLow (u : State) (a : Answer) : u.ComparedFrom (s.replied .trace a (compareLow u)) := by
  refine ⟨compareLow_hrg u, fun low above => ?_, fun h => ?_, ?_, ?_, ?_⟩
  · rw [compareLow_low low above]
    exact ⟨PortState.join_newest .., PortState.join_newest ..⟩
  · rw [compareLow_quiet h]
    exact ⟨rfl, rfl⟩
  · rw [compareLow_eq]
    rfl
  · rw [compareLow_eq]
    rfl
  · rw [compareLow_eq]
    rfl

theorem State.offsetFor_spec (s : State) (plant : Nat) : s.offsetFor plant < 4294967296 ∧
    (s.offsetFor plant : Int) % 4294967296 = ((plant : Int) - s.clock) % 4294967296 := by
  unfold State.offsetFor
  omega

theorem State.collectCount_eq (s : State) {n : Nat} {p : Slot → Bool} (same : ∀ x, p x = x.collectable n) :
    s.collectCount n = s.hrg.slots.toList.countP p := by
  rw [State.collectCount, ← List.countP_eq_length_filter]
  exact List.countP_congr fun x _ => by rw [same]

/-- Settles O60. -/
theorem theRingIsReadAndCollected : Obligations.TheRingIsReadAndCollected := by
  intro s mark count hold plant start sequence outside compared
  have free (p : Port) : s.inHeldFetch p = false := s.inHeldFetch_trace outside p
  have marked := exec_taken (i := .historySetup .trace mark) (owner := historySetup mark) rfl (free _) rfl
  have timed := exec_taken (i := .setTime .trace plant) (owner := setTime plant) rfl (free _) rfl
  have fetched := exec_taken (i := .fetch .trace start count hold) (owner := fetch start count hold) rfl (free _) rfl
  have collected := exec_taken (i := .collect .trace sequence) (owner := collect sequence) rfl (free _) rfl
  refine ⟨⟨_, marked, ?_, ?_⟩, ⟨s.offsetFor plant.toNat, (s.offsetFor_spec _).1, (s.offsetFor_spec _).2, ?_⟩,
    ?_, s.fetchAnswer_finds _ _, ⟨_, collected, ?_⟩⟩
  · rw [historySetup, clampNat, Nat.zero_max]
    exact comparedFrom_compareLow ..
  · have status : setupStatus (min 128 mark.toNat ≠ mark.toNat) = if mark.toNat ≤ 128 then .ok else .clamped := by
      apply setupStatus_of_iff
      rw [decide_eq_true_eq]
      omega
    rw [historySetup, clampNat, Nat.zero_max, compareLow_eq, ← status]
    rfl
  · rw [timed, setTime]
  · rw [fetched, fetch]
  · intro n
    have upTo : min s.newest sequence.toNat = n := by
      simp only [n]
      split <;> omega
    let u : State := { s with hrg := { s.hrg with slots := s.hrg.slots.mapIdx fun _ x => x.collect n } }
    let a : Answer := ⟨setupStatus (s.newest < sequence.toNat),
      be 2 (s.collectCount n) ++ be 2 (compareLow u).available ++ be 4 (compareLow u).oldest⟩
    have answered : collect sequence s = (compareLow u, a) := by
      rw [collect, upTo]
      rfl
    have slots : (s.replied .trace a (compareLow u)).hrg.slots = u.hrg.slots :=
      (congrArg Hrg.slots (compareLow_hrg u) :)
    rw [answered]
    dsimp only
    rw [slots]
    refine ⟨comparedFrom_compareLow u a, fun i => ?_, ?_⟩
    · rw [Table.get_mapIdx]
      cases s.hrg.slots.get i <;> rfl
    · have status : setupStatus (s.newest < sequence.toNat) = if s.newest < sequence.toNat then .clamped else .ok := by
        simp [setupStatus]
      rw [← s.collectCount_eq fun x => by cases x <;> rfl, ← status]
      rfl

end Sys2Proof.Machine
end

section
/-! PROOFS. Charges sealed one after another into their reserved slots (R85, R119, R157). -/

namespace Sys2Proof.Machine

variable {s : State}

/-- A charge's record sealed into its reserved slot, its lots named once less for each ply (R85, R157). -/
def sealCharge (record : Record) (h : Charge) (q : Nat) (s : State) : State :=
  lowerRefs h.plies (sealReserved q record s)

theorem sealPart_of {r : Recipe} {sh : Shot} {k : Fin 4} {c : Cavity} {h : Charge} {q : Nat} (charge : c.charge = some h)
    (number : c.sequence = some q) (s : State) :
    sealPart r sh k c s = sealCharge (.part (partRecord s r sh k c h)) h q s := by
  simp only [sealPart, charge, number]
  rfl

theorem scrapCavity_of {cause : ScrapCause} {shot : Nat} {k : Fin 4} {c : Cavity} {h : Charge} {q : Nat}
    (charge : c.charge = some h) (number : c.sequence = some q) (s : State) :
    scrapCavity cause shot k c s = sealCharge (.scrap (s.cavityScrap cause shot k c h)) h q s := by
  simp only [scrapCavity, charge, number]
  rfl

/-- From `before` to `after` only slots that were reserved for a number named change, each for its own number. -/
def OnlySettles (named : Nat → Prop) (before after : Table Slot 256) : Prop :=
  ∀ i, after.get i = before.get i ∨ ∃ q, named q ∧ slotOf q = i ∧ before.get i = .reserved q

namespace OnlySettles

variable {named other : Nat → Prop} {before between after : Table Slot 256}

theorem refl (named : Nat → Prop) (slots : Table Slot 256) : OnlySettles named slots slots := fun _ => .inl rfl

theorem mono (only : OnlySettles named before after) (more : ∀ q, named q → other q) : OnlySettles other before after :=
  fun i => (only i).imp_right fun ⟨q, name, rest⟩ => ⟨q, more q name, rest⟩

theorem trans (first : OnlySettles named before between) (second : OnlySettles named between after) :
    OnlySettles named before after := by
  intro i
  rcases first i with same | change
  · rw [← same]
    exact second i
  · exact .inr change

/-- A slot that no number named lies in stays. -/
theorem apart (only : OnlySettles named before after) {i : Fin 256} (apart : ∀ q, named q → slotOf q ≠ i) :
    after.get i = before.get i :=
  (only i).resolve_right fun ⟨q, name, here, _⟩ => apart q name here

/-- A slot that is not reserved stays. -/
theorem settled (only : OnlySettles named before after) {i : Fin 256} (settled : ∀ q, before.get i ≠ .reserved q) :
    after.get i = before.get i :=
  (only i).resolve_right fun ⟨q, _, _, reserved⟩ => settled q reserved

/-- A slot reserved for a number not named stays. -/
theorem unnamed (only : OnlySettles named before after) {q : Nat} {i : Fin 256} (reserved : before.get i = .reserved q)
    (unnamed : ¬ named q) : after.get i = .reserved q :=
  ((only i).resolve_right fun ⟨_, name, _, same⟩ =>
    unnamed (Slot.reserved.inj (same.symm.trans reserved) ▸ name)).trans reserved

end OnlySettles

/-- A cavity of these has the number. -/
def Numbered (cs : List (Fin 4 × Cavity)) (q : Nat) : Prop :=
  ∃ x ∈ cs, x.2.sequence = some q

/-- What a run of seals does to the slots: only slots reserved for its numbers change, and a slot reserved for a number that
one cavity alone has holds that cavity's record. -/
structure SealsInto (record : Fin 4 × Cavity → Charge → Record) (cs : List (Fin 4 × Cavity))
    (before after : Table Slot 256) : Prop where
  only : OnlySettles (Numbered cs) before after
  sealed : ∀ x ∈ cs, ∀ h q, x.2.charge = some h → x.2.sequence = some q → (∀ y ∈ cs, y.2.sequence = some q → y = x) →
    before.get (slotOf q) = .reserved q → after.get (slotOf q) = .sealed q (record x h)

/-- The slots after one seal (R157). -/
def sealedSlots (q : Nat) (record : Record) (slots : Table Slot 256) : Table Slot 256 :=
  if slots.get (slotOf q) = .reserved q then slots.set (slotOf q) (.sealed q record) else slots

theorem sealedSlots_only (q : Nat) (record : Record) (slots : Table Slot 256) :
    OnlySettles (· = q) slots (sealedSlots q record slots) := by
  intro i
  unfold sealedSlots
  by_cases reserved : slots.get (slotOf q) = .reserved q
  · rw [if_pos reserved]
    by_cases here : i = slotOf q
    · exact .inr ⟨q, rfl, here.symm, here ▸ reserved⟩
    · exact .inl (Table.get_set_ne _ _ here)
  · rw [if_neg reserved]
    exact .inl rfl

theorem sealedSlots_get_self {q : Nat} (record : Record) {slots : Table Slot 256}
    (reserved : slots.get (slotOf q) = .reserved q) :
    (sealedSlots q record slots).get (slotOf q) = .sealed q record := by
  rw [sealedSlots, if_pos reserved, Table.get_set_self]

theorem SealsInto.nil (record : Fin 4 × Cavity → Charge → Record) (slots : Table Slot 256) :
    SealsInto record [] slots slots :=
  ⟨OnlySettles.refl _ _, fun _ mem => absurd mem List.not_mem_nil⟩

theorem SealsInto.cons {record : Fin 4 × Cavity → Charge → Record} {x : Fin 4 × Cavity} {rest : List (Fin 4 × Cavity)}
    {h : Charge} {q : Nat} {before after : Table Slot 256} (charge : x.2.charge = some h) (number : x.2.sequence = some q)
    (run : SealsInto record rest (sealedSlots q (record x h) before) after) : SealsInto record (x :: rest) before after := by
  have first := sealedSlots_only q (record x h) before
  refine ⟨?_, fun y mem h' q' charge' number' own reserved => ?_⟩
  · refine (first.mono fun q' same => ⟨x, List.mem_cons_self, same ▸ number⟩).trans (run.only.mono ?_)
    exact fun q' ⟨y, mem, number'⟩ => ⟨y, List.mem_cons_of_mem _ mem, number'⟩
  · by_cases here : q' = q
    · subst here
      obtain rfl : x = y := own x List.mem_cons_self number
      obtain rfl : h = h' := Option.some.inj (charge.symm.trans charge')
      have done := sealedSlots_get_self (record x h) reserved
      rw [run.only.settled fun _ => by rw [done]; nofun, done]
    · have later : y ∈ rest := (List.mem_cons.mp mem).resolve_left fun e => by
        subst e
        exact here (Option.some.inj (number'.symm.trans number))
      exact run.sealed y later h' q' charge' number' (fun z inRest => own z (List.mem_cons_of_mem _ inRest))
        (first.unnamed reserved here)

theorem sealCharge_eq (record : Record) (h : Charge) (q : Nat) (s : State) : sealCharge record h q s = { s with
    ltr := { s.ltr with lots := s.lotsAfter h.plies none s.ltr.lots }
    hrg := { s.hrg with slots := sealedSlots q record s.hrg.slots } } := by
  have ring : sealReserved q record s = { s with hrg := { s.hrg with slots := sealedSlots q record s.hrg.slots } } := by
    unfold sealReserved replaceReserved sealedSlots
    split <;> rfl
  rw [sealCharge, ring, lowerRefs_eq]
  rfl

/-- The lots of sealed records' plies leave in two goes as in one (R85). -/
theorem State.lotsAfter_append (s : State) (as bs : List Ply) (lots : List Lot) :
    s.lotsAfter bs none (s.lotsAfter as none lots) = s.lotsAfter (as ++ bs) none lots := by
  have both : lowerRefs (as ++ bs) (s.withLots lots) = lowerRefs bs (lowerRefs as (s.withLots lots)) :=
    List.foldl_append ..
  have lots := congrArg (fun t : State => t.ltr.lots) both
  simp only [lowerRefs_eq] at lots
  exact lots.symm

/-- The plies of a cavity's charge. -/
def pliesHeld (x : Fin 4 × Cavity) : List Ply :=
  (x.2.charge.map fun h => h.plies).getD []

/-- A run of seals over cavities with charge and number: the lots, and the slots (R85, R119, R157). -/
theorem foldl_seal {f : State → Fin 4 × Cavity → State} {record : State → Fin 4 × Cavity → Charge → Record}
    (step : ∀ t x h q, x.2.charge = some h → x.2.sequence = some q → f t x = sealCharge (record t x h) h q t)
    (steady : ∀ t u x h, t.clock = u.clock → t.hrg.wallOffset = u.hrg.wallOffset → t.hrg.wallSet = u.hrg.wallSet →
      record t x h = record u x h)
    {cs : List (Fin 4 × Cavity)} (held : ∀ x ∈ cs, x.2.sealSequence.isSome) (s : State) : ∃ slots,
    cs.foldl f s = { s with
      ltr := { s.ltr with lots := s.lotsAfter (cs.flatMap pliesHeld) none s.ltr.lots }
      hrg := { s.hrg with slots := slots } } ∧
    SealsInto (record s) cs s.hrg.slots slots := by
  induction cs generalizing s with
  | nil => exact ⟨s.hrg.slots, by simp [State.lotsAfter], .nil ..⟩
  | cons x rest ih =>
    obtain ⟨h, q, charge, number⟩ : ∃ h q, x.2.charge = some h ∧ x.2.sequence = some q := by
      have here := held x List.mem_cons_self
      unfold Cavity.sealSequence at here
      split at here
      · rename_i charged
        obtain ⟨h, charge⟩ := Option.isSome_iff_exists.mp charged
        obtain ⟨q, number⟩ := Option.isSome_iff_exists.mp here
        exact ⟨h, q, charge, number⟩
      · cases here
    have first := step s x h q charge number
    rw [sealCharge_eq] at first
    obtain ⟨slots, run, seals⟩ := ih (fun y mem => held y (List.mem_cons_of_mem _ mem)) (f s x)
    have same : record (f s x) = record s := by
      funext y h
      exact steady _ _ y h (by rw [first]) (by rw [first]) (by rw [first])
    rw [same] at seals
    refine ⟨slots, ?_, .cons charge number ?_⟩
    · have plies : pliesHeld x = h.plies := by
        rw [pliesHeld, charge]
        rfl
      rw [List.foldl_cons, run, first, List.flatMap_cons, ← State.lotsAfter_append, plies]
      rfl
    · rw [first] at seals
      exact seals

/-! ### The seals of a shot -/

/-- Timestamps look at the wall offset alone (R158). -/
theorem State.stamp_congr {t u : State} (offset : t.hrg.wallOffset = u.hrg.wallOffset) : t.stamp = u.stamp := by
  funext second
  rw [State.stamp, State.stamp, offset]

theorem heldCavities_held (cs : List (Fin 4 × Cavity)) : ∀ x ∈ heldCavities cs, x.2.sealSequence.isSome :=
  fun _ mem => (List.mem_filter.mp mem).2

/-- The charges of a shot sealed as SCRAP, before their RECORDS_READY (R118). -/
def State.scrapRecordOf (s : State) (cause : ScrapCause) (shot : Nat) (x : Fin 4 × Cavity) (h : Charge) : Record :=
  .scrap (s.cavityScrap cause shot x.1 x.2 h)

theorem foldl_scrapCavity (cause : ScrapCause) (shot : Nat) {cs : List (Fin 4 × Cavity)}
    (held : ∀ x ∈ cs, x.2.sealSequence.isSome) (s : State) : ∃ slots,
    cs.foldl (fun st x => scrapCavity cause shot x.1 x.2 st) s = { s with
      ltr := { s.ltr with lots := s.lotsAfter (cs.flatMap pliesHeld) none s.ltr.lots }
      hrg := { s.hrg with slots := slots } } ∧
    SealsInto (s.scrapRecordOf cause shot) cs s.hrg.slots slots :=
  foldl_seal (record := fun t => t.scrapRecordOf cause shot) (fun t _ _ _ charge number => scrapCavity_of charge number t)
    (fun t u x h clock offset set => by
      simp only [State.scrapRecordOf, State.cavityScrap, scrapRecord, State.stamp_congr offset, clock, set]) held s

/-- The PART record of a cavity of a shot (R119). -/
def State.partRecordOf (s : State) (r : Recipe) (sh : Shot) (x : Fin 4 × Cavity) (h : Charge) : Record :=
  .part (partRecord s r sh x.1 x.2 h)

theorem foldl_sealPart (r : Recipe) (sh : Shot) {cs : List (Fin 4 × Cavity)}
    (held : ∀ x ∈ cs, x.2.sealSequence.isSome) (s : State) : ∃ slots,
    cs.foldl (fun st x => sealPart r sh x.1 x.2 st) s = { s with
      ltr := { s.ltr with lots := s.lotsAfter (cs.flatMap pliesHeld) none s.ltr.lots }
      hrg := { s.hrg with slots := slots } } ∧
    SealsInto (s.partRecordOf r sh) cs s.hrg.slots slots :=
  foldl_seal (record := fun t => t.partRecordOf r sh) (fun t _ _ _ charge number => sealPart_of charge number t)
    (fun t u x h clock offset set => by
      simp only [State.partRecordOf, partRecord, State.stamp_congr offset, clock, set]) held s

end Sys2Proof.Machine
end

section
/-! PROOFS. Parts leave the mould: the take reports, CLEAR CAVITY, the seal of the shot and the demould window (R119, R143,
R145 to R148, R161). -/

namespace Sys2Proof.Machine

variable {s : State} {sh : Shot} {d : Demould} {c : Cavity} {k : Fin 4} {r : Recipe}

/-! ### The cavity a report binds -/

theorem readyToReport_iff : d.readyToReport c = true ↔
    d.engageMark < d.count ∧ ∀ m, c.failMark = some m → m < d.count := by
  unfold Demould.readyToReport
  cases c.failMark <;> simp

theorem pressCavity_of (there : s.shc.press = some sh) (held : sh.Holds k c) : s.pressCavity k = some c := by
  rw [State.pressCavity, there]
  exact held

theorem takeable_none (absent : s.opening = none) : s.takeable k = none := by
  rw [State.takeable, absent]

/-- A report binds a cavity that is ready, and no other (R145). -/
theorem takeable_of (opening : s.opening = some (sh, d)) (cavity : s.pressCavity k = some c) :
    s.takeable k = if s.dmi.holder = .handler ∧ d.engaged = true ∧ c.state = .curing ∧ d.readyToReport c = true
      then some (sh, d, c) else none := by
  rw [State.takeable, opening, cavity]

theorem modifyPress_cavity (there : s.shc.press = some sh) (held : sh.Holds k c) (f : Cavity → Cavity) :
    (s.modifyPress fun x => x.modifyCavity k f) =
      s.setPress { sh with cavities := sh.cavities.set k (some (f c)) } := by
  rw [State.modifyPress, there, Option.map_some, Shot.modifyCavity_of held]
  rfl

/-! ### The seal -/

theorem Shot.allOut_iff : sh.allOut = true ↔ ∀ j v, sh.Holds j v → v.state = .taken ∨ v.state = .cleared := by
  rw [Shot.allOut, List.all_eq_true]
  constructor
  · intro all j v held
    simpa using all (j, v) (Shot.mem_enabled.mpr held)
  · intro all x mem
    simpa using all x.1 x.2 (Shot.mem_enabled.mp mem)

theorem sealIfOut_out (there : s.shc.press = some sh) (phase : sh.phase = .opened) (mounted : s.recipe = some r)
    (out : sh.allOut = true) : sealIfOut s = sealShot r sh s := by
  simp only [sealIfOut, pressIn_of there phase, mounted, if_pos out]

theorem sealIfOut_left (there : s.shc.press = some sh) (phase : sh.phase = .opened) (mounted : s.recipe = some r)
    (left : ¬ sh.allOut = true) : sealIfOut s = s := by
  simp only [sealIfOut, pressIn_of there phase, mounted, if_neg left]

/-- An entry of the shot table freed (R29, R103). -/
theorem entryFreed_eq (s : State) :
    entryFreed s = { s with zct := { s.zct with emptySince := s.emptyAfter s.zct.emptySince } } := by
  unfold entryFreed State.emptyAfter
  by_cases start : s.tableEmpty = true ∧ s.zct.heatMode = .production
  · rw [if_pos (by simpa using start), if_pos start]
  · rw [if_neg (by simpa using start), if_neg start]

/-- The seal of a shot: its records, its entry freed, its demould state and a held eject ended (R119, R143). -/
theorem sealShot_eq (r : Recipe) (sh : Shot) (s : State) : ∃ slots,
    SealsInto (s.partRecordOf r sh) (heldCavities sh.enabled) s.hrg.slots slots ∧
    sealShot r sh s = setNotice .trace (.shotRecords sh.number (sealSequences sh.enabled)) (entryFreed { s with
      ltr := { s.ltr with lots := s.lotsAfter ((heldCavities sh.enabled).flatMap pliesHeld) none s.ltr.lots }
      hrg := { s.hrg with slots := slots }
      shc := { s.shc with press := none }
      dmi := { s.dmi with demould := none }
      ports := { s.ports with
        ejectOutcome := if s.dmi.demould.any (fun d => d.heldEject) then some .sealed else s.ports.ejectOutcome } }) := by
  obtain ⟨slots, run, seals⟩ := foldl_sealPart r sh (heldCavities_held sh.enabled) s
  refine ⟨slots, seals, ?_⟩
  unfold sealShot
  dsimp only
  rw [run, endEject_eq]

/-- The disposition of a part, as the statements say it (R161). -/
theorem dispositionOf_eq (index target : Nat) (f : CavityFlags) (clear : Option ClearDisposition) (overcured blind : Prop)
    [Decidable overcured] [Decidable blind] :
    dispositionOf index target f clear (decide overcured) (decide blind) =
      if index < target ∨ clear = some .scrap then .scrap
      else if overcured ∨ blind ∨ f.openedEarly ∨ f.demouldLate ∨ f.outtimeExceeded ∨ f.bumpsShort ∨ f.forcedRelease ∨
        clear = some .suspect then .suspect
      else .good := by
  simp only [dispositionOf, suspectMarks, Bool.or_eq_true, decide_eq_true_eq, beq_iff_eq, or_assoc]

/-! ### The demould window -/

theorem endWindow_quiet (opening : s.opening = some (sh, d)) (h : d.lateGiven = true ∨ s.clock < d.deadline) :
    endWindow s = s := by
  have untimed : s.lateDemould = none := by
    rw [State.lateDemould, opening]
    rcases h with given | early
    · simp [given]
    · simp [early]
  rw [endWindow, untimed]

theorem endWindow_none (absent : s.opening = none) : endWindow s = s := by
  have untimed : s.lateDemould = none := by
    rw [State.lateDemould, absent]
    rfl
  rw [endWindow, untimed]

theorem endWindow_due (opening : s.opening = some (sh, d)) (unset : d.lateGiven = false) (due : d.deadline ≤ s.clock) :
    let late := NoticeBody.demouldLate sh.number (s.untakenCavities.map fun k => k.val)
    endWindow s = setNotice .handler late (setNotice .press late
      ((flagUntaken (fun f => { f with demouldLate := true }) s).setDemould { d with lateGiven := true })) := by
  have found : s.lateDemould = some (sh, d) := by
    rw [State.lateDemould, opening]
    simp [unset, due]
  rw [endWindow, found]

/-! ### CLEAR CAVITY -/

theorem clearDisposition_of {disposition : BitVec 8} (known : disposition.toNat < 2) :
    clearDisposition disposition = some (if disposition = 0 then .scrap else .suspect) := by
  have two : disposition = 0 ∨ disposition = 1 := by
    simp only [← BitVec.toNat_inj]
    exact Nat.le_one_iff_eq_zero_or_eq_one.mp (Nat.le_of_lt_succ known)
  rcases two with rfl | rfl <;> rfl

theorem clearDisposition_none {disposition : BitVec 8} (beyond : 2 ≤ disposition.toNat) :
    clearDisposition disposition = none := by
  obtain ⟨n, more⟩ := Nat.exists_eq_add_of_le' beyond
  rw [clearDisposition, more]
  rfl

theorem clearCavity_of (there : s.shc.press = some sh) (phase : sh.phase = .opened) (held : sh.Holds k c)
    {disposition : BitVec 8} (known : disposition.toNat < 2) :
    clearCavity (BitVec.ofNat 8 k.val) disposition s =
      if decide (c.state = .curing ∨ c.state = .stuck) = true ∧ s.dmi.holder ≠ .press then
        (sealIfOut (s.setPress { sh with
          cavities := sh.cavities.set k (some (c.cleared (if disposition = 0 then .scrap else .suspect))) }), .bare .ok)
      else (s, .bare .badState) := by
  simp only [clearCavity, inRange_ofNat k (by decide), clearDisposition_of known, pressIn_of there phase,
    pressCavity_of there held, modifyPress_cavity there held, Cavity.untaken_eq, Bool.and_eq_true, bne_iff_ne]

/-! ### The take reports -/

theorem partTaken_of {d : Demould} (taken : s.takeable k = some (sh, d, c)) (there : s.shc.press = some sh)
    (held : sh.Holds k c) {opening : Nat} (opened : sh.times.opening = some opening) :
    partTaken (BitVec.ofNat 8 k.val) s =
      (sealIfOut (s.setPress { sh with cavities := sh.cavities.set k (some (c.taken s.clock (elapsed s.clock opening))) }),
        ⟨.ok, beOpt 4 c.part ++ be 4 (elapsed s.clock opening)⟩) := by
  simp only [partTaken, inRange_ofNat k (by decide), taken, takeLatency, opened, Option.getD_some,
    modifyPress_cavity there held]

theorem partTaken_none (unbound : s.takeable k = none) :
    partTaken (BitVec.ofNat 8 k.val) s = (s, .bare .badState) := by
  simp only [partTaken, inRange_ofNat k (by decide), unbound]

theorem atTakeLimit_iff (mounted : s.recipe = some r) :
    s.atTakeLimit c = decide (c.attempts.getD 0 + 1 = r.takeLimit) := by
  rw [State.atTakeLimit, mounted]
  rfl

theorem takeFail_of {d : Demould} (taken : s.takeable k = some (sh, d, c)) (there : s.shc.press = some sh)
    (held : sh.Holds k c) :
    takeFail (BitVec.ofNat 8 k.val) s =
      let failed := s.setPress { sh with cavities := sh.cavities.set k (some (c.failed d.count (s.atTakeLimit c))) }
      if s.atTakeLimit c then
        (setNotice .press (.stuck sh.number k.val (c.attempts.getD 0 + 1)) failed,
          ⟨.ok, be 1 5 ++ be 1 (c.attempts.getD 0 + 1)⟩)
      else (failed, ⟨.ok, be 1 3 ++ be 1 (c.attempts.getD 0 + 1)⟩) := by
  simp only [takeFail, inRange_ofNat k (by decide), taken, modifyPress_cavity there held]
  rfl

theorem takeFail_none (unbound : s.takeable k = none) :
    takeFail (BitVec.ofNat 8 k.val) s = (s, .bare .badState) := by
  simp only [takeFail, inRange_ofNat k (by decide), unbound]

/-! ### The records of a sealed shot -/

/-- A cavity's own record stands in its slot after the seal of its shot (R119). -/
theorem SealsInto.cavity {record : Fin 4 × Cavity → Charge → Record} {before after : Table Slot 256}
    (seals : SealsInto record (heldCavities sh.enabled) before after) {h : Charge} {q : Nat} (held : sh.Holds k c)
    (charge : c.charge = some h) (number : c.sequence = some q)
    (own : ∀ i w, i ≠ k → sh.Holds i w → w.sequence ≠ some q) (reserved : before.get (slotOf q) = .reserved q) :
    after.get (slotOf q) = .sealed q (record (k, c) h) := by
  have inMould : (k, c) ∈ heldCavities sh.enabled := by
    refine List.mem_filter.mpr ⟨Shot.mem_enabled.mpr held, ?_⟩
    simp only [Cavity.sealSequence, charge, number, Option.isSome_some, if_true]
  refine seals.sealed (k, c) inMould h q charge number (fun y mem same => ?_) reserved
  obtain ⟨i, w⟩ := y
  have here : sh.Holds i w := Shot.mem_enabled.mp (List.mem_filter.mp mem).1
  by_cases apart : i = k
  · subst apart
    rw [Option.some.inj (here.symm.trans held)]
  · exact absurd same (own i w apart here)

/-- Settles O59. -/
theorem partsLeaveTheMouldAndAreSealed : Obligations.PartsLeaveTheMouldAndAreSealed := by
  intro s k disposition n take fail clr
  have takes (b : BitVec 8) : exec (.partTaken .handler b) s =
      .next (s.replied .handler (partTaken b s).2 (partTaken b s).1) := exec_asked (i := .partTaken .handler b) rfl
  have fails (b : BitVec 8) : exec (.takeFail .handler b) s =
      .next (s.replied .handler (takeFail b s).2 (takeFail b s).1) := exec_asked (i := .takeFail .handler b) rfl
  have clears (b : BitVec 8) : exec (.clearCavity .press b disposition) s =
      .next (s.replied .press (clearCavity b disposition s).2 (clearCavity b disposition s).1) :=
    exec_asked (i := .clearCavity .press b disposition) rfl
  have late : exec .demouldLate s = .next (endWindow s) := rfl
  refine ⟨fun b beyond => ?_, fun beyond => ?_, fun other => ?_, fun sh d c r there phase demould held mounted => ?_⟩
  · have outside := inRange_none b beyond
    rw [takes, fails, clears, partTaken, takeFail, clearCavity, outside]
    exact ⟨rfl, rfl, rfl⟩
  · rw [show clr = _ from clears n, clearCavity, clearDisposition_none beyond]
    cases inRange 4 n <;> rfl
  · have unopened := opening_none (s := s) (.inl other)
    refine ⟨?_, ?_, fun known => ?_, ?_⟩
    · rw [show take = _ from takes n, partTaken_none (takeable_none unopened)]
    · rw [show fail = _ from fails n, takeFail_none (takeable_none unopened)]
    · simp only [clr, clears, clearCavity, n, inRange_ofNat k (by decide), clearDisposition_of known, pressIn_none other]
    · rw [late, endWindow_none unopened]
  · intro ready left flag stopped put out judged outcome
    have opening := opening_of there phase demould
    have binds := takeable_of opening (pressCavity_of there held)
    simp only [readyToReport_iff] at binds
    have refuses (h : ¬ ready) : s.takeable k = none := by rw [binds, if_neg h]
    have accepts (h : ready) : s.takeable k = some (sh, d, c) := by rw [binds, if_pos h]
    have outcomes (c' : Cavity) : outcome c' (sealIfOut (s.setPress (put c'))) := by
      refine ⟨fun stays => ?_, fun leaves => ?_⟩
      · exact sealIfOut_left (sh := put c') rfl phase mounted fun all => stays (Shot.allOut_iff.mp all)
      · rw [sealIfOut_out (s := s.setPress (put c')) rfl phase mounted (Shot.allOut_iff.mpr leaves)]
        obtain ⟨slots, seals, eq⟩ := sealShot_eq r (put c') (s.setPress (put c'))
        rw [eq, entryFreed_eq]
        have held : s.dmi.demould.any (fun d => d.heldEject) = d.heldEject := by rw [demould]; rfl
        refine ⟨rfl, rfl, rfl, ?_, PortState.join_newest .., rfl, fun j v h q holds charge number own reserved => ?_,
          rfl, rfl⟩
        · exact congrArg (fun b : Bool => if b then some EjectOutcome.sealed else s.ports.ejectOutcome) held
        · refine ⟨seals.cavity holds charge number own reserved, fun u cure => ?_⟩
          simp only [partRecord, cure, Option.getD_some, decide_eq_true_eq, dispositionOf_eq, and_self]
    refine ⟨fun not => ⟨?_, ?_⟩, fun second is opened past => ⟨_, ?_, outcomes _⟩, fun is below => ?_, fun is limit => ?_,
      fun known no => ?_, fun known inMould free => ⟨_, ?_, outcomes _⟩, fun quiet => ?_, fun unset due => ?_⟩
    · rw [show take = _ from takes n, partTaken_none (refuses not)]
    · rw [show fail = _ from fails n, takeFail_none (refuses not)]
    · rw [show take = _ from takes n, partTaken_of (accepts is) there held opened, elapsed, if_pos past]
      rfl
    · rw [show fail = _ from fails n, takeFail_of (accepts is) there held, atTakeLimit_iff mounted, decide_eq_false below]
      rfl
    · rw [show fail = _ from fails n, takeFail_of (accepts is) there held, atTakeLimit_iff mounted, decide_eq_true limit]
      simp only [if_true, limit, Cavity.failed]
      rfl
    · rw [show clr = _ from clears n, clearCavity_of there phase held known, if_neg]
      rintro ⟨inMould, free⟩
      rcases no with out | press
      · exact absurd (out.symm.trans inMould) nofun
      · exact free press
    · rw [show clr = _ from clears n, clearCavity_of there phase held known, if_pos ⟨inMould, free⟩]
      rfl
    · rw [late, endWindow_quiet opening quiet]
    · rw [late, endWindow_due opening unset due, flagUntaken_of there phase, untakenCavities_of there phase, List.map_map]
      rfl

end Sys2Proof.Machine
end

section
/-! PROOFS. Opening: OPEN, and OPENED in each phase (R116, R117, R138). -/

namespace Sys2Proof.Machine

variable {s : State} {sh : Shot}

/-! ### The charges of a shot scrapped -/

/-- Every charge in a shot's cavities sealed as SCRAP, with RECORDS_READY (R118, R157). -/
theorem scrapShot_eq (sh : Shot) (s : State) : ∃ slots,
    SealsInto (s.scrapRecordOf .shotAborted sh.number) (heldCavities sh.enabled) s.hrg.slots slots ∧
    scrapShot sh s = { s with
      ltr := { s.ltr with lots := s.lotsAfter sh.heldPlies none s.ltr.lots }
      hrg := { s.hrg with slots := slots }
      ports := { s.ports with trace := (s.told .trace sh.readyScraps).ports.trace } } := by
  obtain ⟨slots, run, seals⟩ := foldl_scrapCavity .shotAborted sh.number (heldCavities_held sh.enabled) s
  refine ⟨slots, seals, ?_⟩
  unfold scrapShot
  rw [run, readyScraps, Shot.readyScraps]
  by_cases unsealed : sealSequences sh.enabled = []
  · rw [if_pos (List.isEmpty_iff.mpr unsealed), if_pos unsealed]
    rfl
  · rw [if_neg fun h => unsealed (List.isEmpty_iff.mp h), if_neg unsealed]
    rfl

/-! ### The press's hold released -/

/-- CLAIM_GRANTED, where the press's release passes the lock to a pending claim (R138). -/
def State.claimBodies (s : State) : List NoticeBody :=
  if s.dmi.holder = .press ∧ s.dmi.claim.isSome then [.claimGranted s.clock] else []

theorem releasePress_eq (s : State) : releasePress s = { s with
    dmi := s.dmi.pressReleased
    ports := { s.ports with
      handler := (s.told .handler s.claimBodies).ports.handler
      claimOutcome := if s.dmi.holder = .press ∧ s.dmi.claim.isSome then some .granted else s.ports.claimOutcome } } := by
  unfold releasePress Dmi.pressReleased State.claimBodies
  by_cases press : s.dmi.holder = .press
  · rw [if_pos press, if_pos press]
    by_cases pending : s.dmi.claim.isSome = true
    · simp only [if_pos pending, if_pos (And.intro press pending)]
      obtain ⟨second, claim⟩ := Option.isSome_iff_exists.mp pending
      simp only [claim]
      rfl
    · simp only [if_neg pending, if_neg fun passes : s.dmi.holder = .press ∧ _ => pending passes.2]
      have absent : s.dmi.claim = none := by simpa using pending
      simp only [absent]
      rw [← absent]
      rfl
  · rw [if_neg press, if_neg press, if_neg fun passes => press passes.1, if_neg fun passes => press passes.1]
    rfl

/-- What an OPENED report leaves before a held close is examined again (R117, R138). -/
def State.released (s : State) (b : NoticeBody) : State :=
  { s with
    dmi := s.dmi.pressReleased
    ports := { s.ports with
      handler := (s.told .handler (s.claimBodies ++ [b])).ports.handler
      claimOutcome := if s.dmi.holder = .press ∧ s.dmi.claim.isSome then some .granted else s.ports.claimOutcome } }

theorem pressOpened_eq (sh : Shot) (s : State) :
    pressOpened sh s = reexamine (s.released (.opened sh.number sh.phase)) := by
  rw [pressOpened, releasePress_eq, State.released, State.told_append, State.told_eq s .handler s.claimBodies]
  rfl

theorem State.released_newest (s : State) (b : NoticeBody) : (s.released b).Newest .handler b :=
  s.told_newest .handler s.claimBodies b

/-- The handler port's notices of an OPENED report, its phase's own before them (R117, R138; log entry 17). -/
theorem State.released_handler {t : State} (b : NoticeBody) (bodies : List NoticeBody) (dmi : t.claimBodies = s.claimBodies)
    (clock : t.clock = s.clock) (port : t.ports.handler = (s.told .handler bodies).ports.handler) :
    (t.released b).ports.handler = (s.told .handler (bodies ++ s.claimBodies ++ [b])).ports.handler := by
  rw [List.append_assoc, State.told_append, ← dmi]
  exact State.told_get_congr .handler _ port (clock.trans (by rw [State.told_eq]))

theorem Dmi.pressReleased_demould (d : Dmi) (x : Option Demould) :
    ({ d with demould := x }).pressReleased = { d.pressReleased with demould := x } := by
  unfold Dmi.pressReleased
  dsimp only
  split <;> rfl

/-! ### The mould opened -/

theorem openMould_eq (sh : Shot) (early : Bool) (s : State) : ∃ d count,
    Fits32 (s.clock + (s.recipe.map Recipe.demouldWindow).getD 0) s.freeCount d count ∧
    openMould sh early s = { s with
      freeCount := count
      shc := { s.shc with
        heldOpen := none
        press := some { sh.mapEnabled (fun _ c => c.openMould early) with
          phase := .opened, times := { sh.times with opening := some s.clock } } }
      dmi := { s.dmi with demould := some (Demould.start d) }
      ports := { s.ports with openOutcome := if s.shc.heldOpen.isSome then some .opened else s.ports.openOutcome } } := by
  have eq := endOpen_eq .opened s
  have fits := fitWord_fits (s.clock + (s.recipe.map Recipe.demouldWindow).getD 0) (endOpen .opened s)
  refine ⟨_, _, by rw [eq] at fits; exact fits, ?_⟩
  unfold openMould
  dsimp only
  rw [fitWord_state, eq]
  rfl

/-- Settles O53. -/
theorem openingReleasesTheMould : Obligations.OpeningReleasesTheMould := by
  intro s
  have opens : exec (.openPress .press) s = .next (s.replied .press (openPress s).2 (openPress s).1) :=
    exec_asked (i := .openPress .press) rfl
  have reports : exec (.opened .press) s = .next (s.replied .press (opened s).2 (opened s).1) :=
    exec_asked (i := .opened .press) rfl
  refine ⟨fun absent => ?_, ?_⟩
  · rw [opens, reports, openPress, opened, absent]
    exact ⟨rfl, rfl⟩
  intro passes claimed claim sh there
  refine ⟨fun phase => ?_, fun phase => ?_, fun notCured notCuring => ?_, fun phase => ?_, fun r curing mounted => ?_,
    fun phase => ?_⟩
  · rw [opens, openPress, there]
    simp only [phase]
  · rw [opens, openPress, there]
    simp only [phase]
    cases held : s.shc.heldOpen with
    | none => rfl
    | some number =>
      have same : some (s.shc.heldOpen.getD sh.number) = s.shc.heldOpen := by rw [held]; rfl
      rw [← held, if_pos (by rw [held]; rfl), same]
  · rw [opens, openPress, there]
    dsimp only
    cases phase : sh.phase with
    | cured => exact absurd phase notCured
    | curing => exact absurd phase notCuring
    | assembling | closing | bumping | opened | aborted => rfl
  · rw [reports, opened, there]
    simp only [phase]
  · have runs : opened s = (pressOpened sh (openMould sh (decide (sh.phase = .curing)) s), .bare .ok) := by
      rw [opened, there]
      rcases curing with phase | phase <;> simp only [phase] <;> rfl
    obtain ⟨d, count, fits, eq⟩ := openMould_eq sh (decide (sh.phase = .curing)) s
    rw [mounted] at fits
    rw [reports, runs, pressOpened_eq, eq]
    refine ⟨_, d, rfl, fits, rfl, Dmi.pressReleased_demould .., rfl, rfl,
      State.released_handler (bodies := []) _ rfl rfl rfl, State.released_newest .., rfl, rfl⟩
  · by_cases freed : sh.phase = .aborted
    · have runs : opened s = (pressOpened sh (freePress s), .bare .ok) := by
        rw [opened, there]
        simp only [freed]
      rw [reports, runs, pressOpened_eq, freePress, entryFreed_eq]
      simp only [freed, if_true]
      exact ⟨_, rfl, rfl, rfl, rfl, rfl, State.released_handler (bodies := []) _ rfl rfl rfl, State.released_newest ..,
        rfl, rfl, fun _ => ⟨rfl, rfl⟩,
        fun other => absurd rfl other, rfl⟩
    · have runs : opened s = (pressOpened sh (implicitAbort sh s), .bare .ok) := by
        rw [opened, there]
        rcases phase with aborted | phase | phase
        · exact absurd aborted freed
        all_goals simp only [phase]
      obtain ⟨slots, seals, eq⟩ := scrapShot_eq sh s
      rw [reports, runs, pressOpened_eq, implicitAbort, freePress, entryFreed_eq, eq]
      simp only [if_neg freed]
      refine ⟨_, rfl, rfl, rfl, rfl, rfl, State.released_handler _ _ rfl rfl rfl,
        State.released_newest .., rfl, rfl, fun phase => absurd phase freed,
        fun _ => ⟨rfl, rfl, fun k c h q held charge number own reserved => seals.cavity held charge number own reserved⟩,
        rfl⟩

end Sys2Proof.Machine
end

section
/-! PROOFS. The returns of an abort: staged charges back on the rack, their slots VOID (R94, R118, R156). -/

namespace Sys2Proof.Machine

variable {s t : State}

/-! ### Several charges returned -/

/-- The charge that the return of a staged cavity gives back (R94). -/
def Cavity.returnsCharge (c : Cavity) : Option Nat :=
  if c.sequence.isSome then c.chargeId else none

/-- A rack record after the charges `ids` have returned: all records of one charge take the state of the first (R91, R94). -/
def State.recordReturned (s : State) (ids : List Nat) (x : RackRecord) : RackRecord :=
  if x.charge.id ∈ ids then { x with state := s.returnState ((s.rackRecord? x.charge.id).getD x) } else x

/-- The rack after the charges `ids` have returned (R94). -/
def State.rackReturned (s : State) (ids : List Nat) : List RackRecord :=
  s.ltr.rack.map (s.recordReturned ids)

theorem State.recordReturned_charge (s : State) (ids : List Nat) (x : RackRecord) :
    (s.recordReturned ids x).charge = x.charge := by
  unfold State.recordReturned
  split <;> rfl

theorem State.recordReturned_of_notMem {ids : List Nat} {x : RackRecord} (other : x.charge.id ∉ ids) :
    s.recordReturned ids x = x :=
  if_neg other

theorem rackRecord_mem {id : Nat} {x : RackRecord} (mem : x ∈ s.ltr.rack) (same : x.charge.id = id) :
    ∃ r, s.rackRecord? id = some r :=
  Option.isSome_iff_exists.mp (List.find?_isSome.mpr ⟨x, mem, by simpa using same⟩)

/-- The rack holds the same charges after a return. -/
theorem rackRecord_returned {ids : List Nat} (rack : t.ltr.rack = s.rackReturned ids) (id : Nat) :
    t.rackRecord? id = (s.rackRecord? id).map (s.recordReturned ids) := by
  rw [State.rackRecord?, rack, State.rackReturned, List.find?_map]
  simp only [Function.comp_def, State.recordReturned_charge]
  rfl

/-- A returned record that returns once more keeps its state (R94; log entry 30). -/
theorem State.returnState_again (s : State) (r : RackRecord) :
    s.returnState { r with state := s.returnState r } = s.returnState r := by
  by_cases early : s.clock < r.charge.outDeadline
  · simp [State.returnState, early]
  · by_cases expiring : s.expiring r = true
    · have due : r.charge.outDeadline = s.clock := by simpa using (Bool.and_eq_true_iff.mp expiring).1
      have queued : s.returnState r = .queued := by simp [State.returnState, expiring]
      rw [queued]
      simp [State.returnState, State.expiring, due]
    · have expired : s.returnState r = .expired := by simp [State.returnState, expiring, early]
      rw [expired]
      simp [State.returnState, State.expiring, early]

theorem State.returnState_congr (clock : t.clock = s.clock) (r : RackRecord) : t.returnState r = s.returnState r := by
  rw [State.returnState, State.returnState, State.expiring, State.expiring, clock]

/-- Charges that return after others, as all at once (R94). -/
theorem rackReturned_append {as bs : List Nat} (rack : t.ltr.rack = s.rackReturned as) (clock : t.clock = s.clock) :
    t.rackReturned bs = s.rackReturned (as ++ bs) := by
  unfold State.rackReturned
  rw [rack, State.rackReturned, List.map_map]
  refine List.map_congr_left fun x mem => ?_
  obtain ⟨r, found⟩ := rackRecord_mem mem rfl
  have after := rackRecord_returned rack x.charge.id
  have same := rackRecord_id found
  rw [found, Option.map_some] at after
  show t.recordReturned bs (s.recordReturned as x) = s.recordReturned (as ++ bs) x
  rw [State.recordReturned, State.recordReturned_charge, after, Option.getD_some]
  by_cases later : x.charge.id ∈ bs
  · rw [if_pos later, State.returnState_congr clock]
    by_cases earlier : x.charge.id ∈ as
    · have first : s.recordReturned as r = { r with state := s.returnState r } := by
        rw [State.recordReturned, if_pos (same ▸ earlier), same, found]
        rfl
      rw [first, State.returnState_again, State.recordReturned, if_pos earlier, State.recordReturned,
        if_pos (List.mem_append_left bs earlier), found]
      rfl
    · have unmoved : s.recordReturned as r = r := State.recordReturned_of_notMem (same ▸ earlier)
      rw [unmoved, State.recordReturned_of_notMem earlier, State.recordReturned,
        if_pos (List.mem_append_right as later), found]
      rfl
  · rw [if_neg later, State.recordReturned, State.recordReturned]
    simp only [List.mem_append, later, or_false]

theorem rackReturned_nil (s : State) : s.rackReturned [] = s.ltr.rack :=
  (List.map_congr_left fun _ _ => State.recordReturned_of_notMem List.not_mem_nil).trans (List.map_id' _)

/-! ### Slots made VOID -/

/-- The slots after a reservation is given up (R156). -/
def voidedSlots (q : Nat) (slots : Table Slot 256) : Table Slot 256 :=
  if slots.get (slotOf q) = .reserved q then slots.set (slotOf q) (.void q) else slots

theorem voidSlot_hrg (q : Nat) (s : State) : (voidSlot q s).hrg =
    { s.hrg with slots := voidedSlots q s.hrg.slots, below := (voidSlot q s).hrg.below } := by
  unfold voidSlot
  rw [compareLow_hrg]
  unfold replaceReserved voidedSlots
  split <;> rfl

theorem voidedSlots_get_self {q : Nat} {slots : Table Slot 256} (reserved : slots.get (slotOf q) = .reserved q) :
    (voidedSlots q slots).get (slotOf q) = .void q := by
  rw [voidedSlots, if_pos reserved, Table.get_set_self]

/-- From `before` to `after` only slots that were reserved for a number named change, and become VOID. -/
def OnlyVoids (named : Nat → Prop) (before after : Table Slot 256) : Prop :=
  ∀ i, after.get i = before.get i ∨ ∃ q, named q ∧ slotOf q = i ∧ before.get i = .reserved q ∧ after.get i = .void q

namespace OnlyVoids

variable {named other : Nat → Prop} {before between after : Table Slot 256}

theorem refl (named : Nat → Prop) (slots : Table Slot 256) : OnlyVoids named slots slots := fun _ => .inl rfl

theorem voided (q : Nat) (slots : Table Slot 256) : OnlyVoids (· = q) slots (voidedSlots q slots) := by
  intro i
  by_cases reserved : slots.get (slotOf q) = .reserved q
  · by_cases here : i = slotOf q
    · subst here
      exact .inr ⟨q, rfl, rfl, reserved, voidedSlots_get_self reserved⟩
    · rw [voidedSlots, if_pos reserved]
      exact .inl (Table.get_set_ne _ _ here)
  · rw [voidedSlots, if_neg reserved]
    exact .inl rfl

theorem mono (only : OnlyVoids named before after) (more : ∀ q, named q → other q) : OnlyVoids other before after :=
  fun i => (only i).imp_right fun ⟨q, name, rest⟩ => ⟨q, more q name, rest⟩

theorem settles (only : OnlyVoids named before after) : OnlySettles named before after :=
  fun i => (only i).imp_right fun ⟨q, name, here, reserved, _⟩ => ⟨q, name, here, reserved⟩

theorem trans (first : OnlyVoids named before between) (second : OnlyVoids named between after) :
    OnlyVoids named before after := by
  intro i
  rcases first i with same | ⟨q, name, here, reserved, void⟩
  · rw [← same]
    exact second i
  · have kept := second.settles.settled (i := i) fun q' => by rw [void]; nofun
    exact .inr ⟨q, name, here, reserved, kept.trans void⟩

/-- A reserved slot stays reserved or becomes VOID. -/
theorem reserved (only : OnlyVoids named before after) {q : Nat} (reserved : before.get (slotOf q) = .reserved q) :
    after.get (slotOf q) = .reserved q ∨ after.get (slotOf q) = .void q := by
  rcases only (slotOf q) with same | ⟨q', _, _, reserved', void⟩
  · exact .inl (same.trans reserved)
  · obtain rfl : q' = q := Slot.reserved.inj (reserved'.symm.trans reserved)
    exact .inr void

end OnlyVoids

/-! ### The returns of an abort -/

/-- What the returns of the staged cavities `cs` of the assembling shot do (R94, R118). -/
structure Returned (s : State) (cs : List (Fin 4 × Cavity)) (t : State) : Prop where
  ltr : t.ltr = { s.ltr with rack := s.rackReturned (cs.filterMap fun x => x.2.returnsCharge) }
  shc : t.shc = { s.shc with assembling := t.shc.assembling }
  hrg : t.hrg = { s.hrg with slots := t.hrg.slots, below := t.hrg.below }
  slots : OnlyVoids (Numbered cs) s.hrg.slots t.hrg.slots
  voided : ∀ x ∈ cs, ∀ id q, x.2.chargeId = some id → x.2.sequence = some q → (s.rackRecord? id).isSome →
    s.hrg.slots.get (slotOf q) = .reserved q → t.hrg.slots.get (slotOf q) = .void q
  ports : t.ports = { s.ports with press := t.ports.press, trace := t.ports.trace }
  rest : { t with shc := s.shc, ltr := s.ltr, hrg := s.hrg, ports := s.ports } = s

theorem Returned.nil (s : State) : Returned s [] s :=
  ⟨by rw [List.filterMap_nil, rackReturned_nil], rfl, rfl, .refl _ _, fun _ mem => absurd mem List.not_mem_nil, rfl, rfl⟩

theorem Returned.cons {x : Fin 4 × Cavity} {rest : List (Fin 4 × Cavity)} {u : State} (first : Returned s [x] t)
    (later : Returned t rest u) : Returned s (x :: rest) u := by
  have clock : t.clock = s.clock := (congrArg State.clock first.rest :)
  have rack := congrArg Ltr.rack first.ltr
  refine ⟨?_, ?_, ?_, ?_, ?_, ?_, ?_⟩
  · rw [later.ltr, rackReturned_append rack clock, first.ltr, ← List.filterMap_append]
    rfl
  · rw [later.shc, first.shc]
  · rw [later.hrg, first.hrg]
  · refine (first.slots.mono fun q ⟨y, mem, number⟩ => ?_).trans
      (later.slots.mono fun q ⟨y, mem, number⟩ => ⟨y, List.mem_cons_of_mem _ mem, number⟩)
    exact ⟨y, List.mem_singleton.mp mem ▸ List.mem_cons_self, number⟩
  · intro y mem id q charge number found reserved
    have found' : (t.rackRecord? id).isSome := by
      rw [rackRecord_returned rack, Option.isSome_map]
      exact found
    rcases first.slots.reserved reserved with reserved' | void
    · rcases List.mem_cons.mp mem with here | behind
      · exact absurd ((first.voided y (here ▸ List.mem_singleton_self _) id q charge number found reserved).symm.trans
          reserved') nofun
      · exact later.voided y behind id q charge number found' reserved'
    · exact (later.slots.settles.settled fun _ => by rw [void]; nofun).trans void
  · rw [later.ports, first.ports]
  · exact (congrArg (fun v : State => { v with shc := s.shc, ltr := s.ltr, hrg := s.hrg, ports := s.ports })
      later.rest).trans first.rest

/-- The staged cavities' records in the assembling shot, as a fold of returns meets them. -/
def State.HoldsStaged (s : State) (cs : List (Fin 4 × Cavity)) : Prop :=
  ∀ x ∈ cs, s.assemblingCavity x.1 = some x.2 ∧ x.2.state = .staged

theorem stagedCharge_some {k : Fin 4} {c : Cavity} {y : RackRecord × Nat} (held : s.assemblingCavity k = some c)
    (charge : s.stagedCharge k = some y) :
    ∃ id q r, c.chargeId = some id ∧ c.sequence = some q ∧ s.rackRecord? id = some r := by
  rw [State.stagedCharge, held] at charge
  dsimp only at charge
  split at charge
  · split at charge
    · rename_i r q found number
      obtain ⟨id, named, found⟩ := Option.bind_eq_some_iff.mp found
      exact ⟨id, q, r, named, number, found⟩
    · cases charge
  · cases charge

theorem rackReturned_single {id : Nat} {r : RackRecord} (found : s.rackRecord? id = some r) :
    (s.ltr.rack.map fun z => if z.charge.id = r.charge.id then { z with state := s.returnState r } else z) =
      s.rackReturned [id] := by
  refine List.map_congr_left fun z _ => ?_
  rw [State.recordReturned, rackRecord_id found]
  by_cases here : z.charge.id = id
  · rw [if_pos here, if_pos (by rw [here]; exact List.mem_singleton_self id), here, found]
    rfl
  · rw [if_neg here, if_neg (by simpa using here)]

theorem returnCavity_returned {x : Fin 4 × Cavity} (held : s.assemblingCavity x.1 = some x.2) (staged : x.2.state = .staged) :
    Returned s [x] (returnCavity x.1 s) ∧
      ∀ j, j ≠ x.1 → (returnCavity x.1 s).assemblingCavity j = s.assemblingCavity j := by
  obtain ⟨k, c⟩ := x
  by_cases there : ∃ id q r, c.chargeId = some id ∧ c.sequence = some q ∧ s.rackRecord? id = some r
  · obtain ⟨id, q, r, charge, number, found⟩ := there
    obtain ⟨sh, shot⟩ : ∃ sh, s.shc.assembling = some sh := by
      by_contra absent
      simp [State.assemblingCavity, Option.eq_none_iff_forall_ne_some.mpr fun sh h => absent ⟨sh, h⟩] at held
    obtain ⟨u, eq, table⟩ := returnStaged_eq r q shot ((assemblingCavity_of shot k).symm.trans held)
    have run : returnCavity k s = voidSlot q u := by
      rw [returnCavity, stagedCharge_of held staged charge number found]
      exact eq
    have charges : ([(k, c)].filterMap fun x => x.2.returnsCharge) = [id] := by
      simp [Cavity.returnsCharge, charge, number]
    have hrg := voidSlot_hrg q u
    have slots : (voidSlot q u).hrg.slots = voidedSlots q s.hrg.slots := by rw [hrg, table]
    rw [run]
    refine ⟨⟨?_, ?_, ?_, ?_, ?_, ?_, ?_⟩, fun j other => ?_⟩
    · rw [voidSlot_ltr, table, charges, ← rackReturned_single found]
    · rw [voidSlot_shc, table]
    · rw [hrg, table]
    · rw [slots]
      exact (OnlyVoids.voided q s.hrg.slots).mono fun _ same => ⟨(k, c), List.mem_singleton_self _, same ▸ number⟩
    · intro x mem id' q' _ number' _ reserved
      obtain rfl := List.mem_singleton.mp mem
      obtain rfl : q = q' := Option.some.inj (number.symm.trans number')
      rw [slots, voidedSlots_get_self reserved]
    · rw [voidSlot_eq, table]
    · apply State.eq_of_fields <;> simp [table]
    · rw [State.assemblingCavity, voidSlot_shc, table, assemblingCavity_of shot]
      exact Table.get_set_ne _ _ other
  · have quiet : returnCavity k s = s := by
      rw [returnCavity]
      cases charge : s.stagedCharge k with
      | none => rfl
      | some y => exact absurd (stagedCharge_some held charge) there
    have nothing : ∀ y ∈ s.ltr.rack, y.charge.id ∉ [(k, c)].filterMap fun x => x.2.returnsCharge := by
      intro y mem named
      obtain ⟨x, here, charge⟩ := List.mem_filterMap.mp named
      obtain rfl := List.mem_singleton.mp here
      obtain ⟨q, number⟩ : ∃ q, c.sequence = some q := by
        by_contra absent
        simp [Cavity.returnsCharge, Option.eq_none_iff_forall_ne_some.mpr fun q h => absent ⟨q, h⟩] at charge
      obtain ⟨r, found⟩ := rackRecord_mem mem rfl
      rw [Cavity.returnsCharge, number] at charge
      exact there ⟨y.charge.id, q, r, charge, number, found⟩
    rw [quiet]
    refine ⟨⟨?_, rfl, rfl, .refl _ _, ?_, rfl, rfl⟩, fun _ _ => rfl⟩
    · have rack : s.rackReturned ([(k, c)].filterMap fun x => x.2.returnsCharge) = s.ltr.rack :=
        (List.map_congr_left fun y mem => State.recordReturned_of_notMem (nothing y mem)).trans (List.map_id' _)
      rw [rack]
    · intro x mem id q charge number found _
      obtain rfl := List.mem_singleton.mp mem
      obtain ⟨r, found⟩ := Option.isSome_iff_exists.mp found
      exact absurd ⟨id, q, r, charge, number, found⟩ there

theorem foldl_returnCavity {cs : List (Fin 4 × Cavity)} (apart : (cs.map Prod.fst).Nodup) (held : s.HoldsStaged cs) :
    Returned s cs ((cs.map Prod.fst).foldl (fun st k => returnCavity k st) s) := by
  induction cs generalizing s with
  | nil => exact .nil s
  | cons x rest ih =>
    obtain ⟨here, staged⟩ := held x List.mem_cons_self
    obtain ⟨first, others⟩ := returnCavity_returned here staged
    obtain ⟨out, apart⟩ := List.nodup_cons.mp apart
    refine first.cons (ih apart fun y mem => ?_)
    obtain ⟨there, staged⟩ := held y (List.mem_cons_of_mem _ mem)
    exact ⟨(others y.1 fun same => out (same ▸ List.mem_map_of_mem mem)).trans there, staged⟩

end Sys2Proof.Machine
end

section
/-! PROOFS. ABORT SHOT and PRODUCTION RESET (R118, R120). -/

namespace Sys2Proof.Machine

variable {s t u : State} {sh : Shot} {quiet : Prop}

/-! ### What aborts do to the ring, the lots and the ports -/

/-- A cavity of these shots has the number. -/
def NumberedIn (shots : List Shot) (q : Nat) : Prop :=
  ∃ sh ∈ shots, ∃ k c, sh.Holds k c ∧ c.sequence = some q

/-- What the aborts of these shots do to the slots: only slots reserved for their numbers change, and one reserved for a charge
in the mould that alone has the number holds its SCRAP record (R118, R157). -/
structure AbortsInto (s : State) (shots : List Shot) (before after : Table Slot 256) : Prop where
  only : OnlySettles (NumberedIn shots) before after
  sealed : ∀ sh ∈ shots, ∀ k c h q, sh.Holds k c → c.state ≠ .staged → c.charge = some h → c.sequence = some q →
    (∀ other ∈ shots, ∀ j d, other.Holds j d → d.sequence = some q → other = sh ∧ j = k) →
      before.get (slotOf q) = .reserved q → after.get (slotOf q) = .sealed q
        (.scrap (scrapRecord s .shotAborted h (some h.close) c.loadTime (some (sh.number, k.val))))

theorem NumberedIn.append_left {as : List Shot} (bs : List Shot) {q : Nat} :
    NumberedIn as q → NumberedIn (as ++ bs) q :=
  fun ⟨sh, mem, number⟩ => ⟨sh, List.mem_append_left bs mem, number⟩

theorem NumberedIn.append_right (as : List Shot) {bs : List Shot} {q : Nat} :
    NumberedIn bs q → NumberedIn (as ++ bs) q :=
  fun ⟨sh, mem, number⟩ => ⟨sh, List.mem_append_right as mem, number⟩

theorem AbortsInto.nil (s : State) (slots : Table Slot 256) : AbortsInto s [] slots slots :=
  ⟨OnlySettles.refl _ _, fun _ mem => absurd mem List.not_mem_nil⟩

theorem AbortsInto.append {as bs : List Shot} {before between after : Table Slot 256} (first : AbortsInto s as before between)
    (second : AbortsInto s bs between after) : AbortsInto s (as ++ bs) before after := by
  refine ⟨(first.only.mono fun _ => NumberedIn.append_left bs).trans
    (second.only.mono fun _ => NumberedIn.append_right as), fun sh mem k c h q held mould charge number own reserved => ?_⟩
  by_cases early : sh ∈ as
  · have done := first.sealed sh early k c h q held mould charge number
      (fun other mem => own other (List.mem_append_left bs mem)) reserved
    rw [second.only.settled fun _ => by rw [done]; nofun, done]
  · have late : sh ∈ bs := (List.mem_append.mp mem).resolve_left early
    refine second.sealed sh late k c h q held mould charge number
      (fun other mem => own other (List.mem_append_right as mem)) (first.only.unnamed reserved ?_)
    rintro ⟨other, there, j, d, holds, same⟩
    exact early ((own other (List.mem_append_left bs there) j d holds same).1 ▸ there)

theorem scrapRecord_congr (clock : t.clock = s.clock) (offset : t.hrg.wallOffset = s.hrg.wallOffset)
    (set : t.hrg.wallSet = s.hrg.wallSet) : scrapRecord t = scrapRecord s := by
  funext cause h close load cavity
  simp only [scrapRecord, State.stamp_congr offset, clock, set]

theorem AbortsInto.congr {shots : List Shot} {before after : Table Slot 256} (records : scrapRecord t = scrapRecord s)
    (h : AbortsInto t shots before after) : AbortsInto s shots before after :=
  ⟨h.only, records ▸ h.sealed⟩

/-- What the aborts of these shots do, but for the table, the rack, the held close and the press port; where `quiet`, nothing is
returned (R118, R120). -/
structure Aborted (quiet : Prop) (s : State) (shots : List Shot) (t : State) : Prop where
  clock : t.clock = s.clock
  scales : t.scales = s.scales
  slots : AbortsInto s shots s.hrg.slots t.hrg.slots
  hrg : t.hrg = { s.hrg with slots := t.hrg.slots, below := t.hrg.below }
  ltr : t.ltr = { s.ltr with rack := t.ltr.rack, lots := s.lotsAfter (shots.flatMap Shot.heldPlies) none s.ltr.lots }
  handler : t.ports.handler = (s.told .handler (shots.map fun sh => .shotAborted sh.number)).ports.handler
  newest : ∀ sh, shots.getLast? = some sh → sealSequences sh.enabled ≠ [] →
    t.Newest .trace (.scrapRecords (sealSequences sh.enabled))
  trace : s.LowCompared ∨ quiet → t.ports.trace = (s.told .trace (shots.flatMap Shot.readyScraps)).ports.trace
  low : s.LowCompared → t.LowCompared
  below : quiet → t.hrg.below = s.hrg.below
  ports : { t.ports with
    press := s.ports.press, handler := s.ports.handler, trace := s.ports.trace
    closeOutcome := s.ports.closeOutcome, claimOutcome := s.ports.claimOutcome } = s.ports

theorem Aborted.nil (quiet : Prop) (s : State) : Aborted quiet s [] s :=
  ⟨rfl, rfl, .nil .., rfl, by simp [State.lotsAfter], rfl, nofun, fun _ => rfl, id, fun _ => rfl, rfl⟩

/-- Aborts without returns follow others. -/
theorem Aborted.append {as bs : List Shot} (first : Aborted quiet s as t) (second : Aborted True t bs u) :
    Aborted quiet s (as ++ bs) u := by
  have records : scrapRecord t = scrapRecord s :=
    scrapRecord_congr first.clock (congrArg Hrg.wallOffset first.hrg :) (congrArg Hrg.wallSet first.hrg :)
  have trace := second.trace (.inr trivial)
  refine ⟨second.clock.trans first.clock, second.scales.trans first.scales, first.slots.append (second.slots.congr records),
    ?_, ?_, ?_, ?_, fun h => ?_, second.low ∘ first.low, fun h => (second.below trivial).trans (first.below h), ?_⟩
  · rw [second.hrg, first.hrg]
  · rw [second.ltr, first.ltr, List.flatMap_append, ← State.lotsAfter_append,
      State.lotsAfter_congr first.clock first.scales]
  · rw [second.handler, List.map_append, State.told_append]
    exact State.told_get_congr .handler _ first.handler (first.clock.trans (by rw [State.told_eq]))
  · intro sh last sealed
    by_cases alone : bs = []
    · subst alone
      have newest := first.newest sh (by rwa [List.append_nil] at last) sealed
      rw [State.Newest] at newest ⊢
      rw [second.clock, ← newest]
      exact congrArg (fun p : PortState => p.notices.getLast?) trace
    · exact second.newest sh (by rwa [List.getLast?_append_of_ne_nil _ alone] at last) sealed
  · rw [trace, List.flatMap_append, State.told_append]
    exact State.told_get_congr .trace _ (first.trace h) (first.clock.trans (by rw [State.told_eq]))
  · exact (congrArg (fun p : Ports => { p with
      press := s.ports.press, handler := s.ports.handler, trace := s.ports.trace
      closeOutcome := s.ports.closeOutcome, claimOutcome := s.ports.claimOutcome }) second.ports).trans first.ports

/-- What comes after the aborts may change the press port and the outcomes of held requests. -/
theorem Aborted.congr {shots : List Shot} (h : Aborted quiet s shots t) (clock : u.clock = t.clock)
    (scales : u.scales = t.scales) (hrg : u.hrg = t.hrg) (ltr : u.ltr = t.ltr)
    (ports : u.ports = { t.ports with
      press := u.ports.press, closeOutcome := u.ports.closeOutcome, claimOutcome := u.ports.claimOutcome }) :
    Aborted quiet s shots u := by
  refine ⟨clock.trans h.clock, scales.trans h.scales, hrg ▸ h.slots, hrg ▸ h.hrg, ltr ▸ h.ltr, ?_, ?_, ?_,
    fun low => (h.low low).congr hrg.symm, fun q => hrg ▸ h.below q, ?_⟩
  · rw [ports]
    exact h.handler
  · intro sh last sealed
    have newest := h.newest sh last sealed
    rw [State.Newest] at newest ⊢
    rw [ports, clock]
    exact newest
  · rw [ports]
    exact h.trace
  · rw [ports]
    exact h.ports

/-! ### One abort -/

/-- The charges of one shot sealed as SCRAP, after its returns (R118). -/
theorem SealsInto.aborts {before between after : Table Slot 256} {cs : List (Fin 4 × Cavity)}
    (staged : ∀ x ∈ cs, sh.Holds x.1 x.2 ∧ x.2.state = .staged) (first : OnlySettles (Numbered cs) before between)
    (second : SealsInto (s.scrapRecordOf .shotAborted sh.number) (heldCavities sh.enabled) between after) :
    AbortsInto s [sh] before after := by
  refine ⟨(first.mono fun q ⟨x, mem, number⟩ => ?_).trans (second.only.mono fun q ⟨x, mem, number⟩ => ?_), ?_⟩
  · exact ⟨sh, List.mem_singleton_self sh, x.1, x.2, Shot.mem_enabled.mp (List.mem_filter.mp mem).1, number⟩
  · exact ⟨sh, List.mem_singleton_self sh, x.1, x.2, (staged x mem).1, number⟩
  · intro sh' mem k c h q held mould charge number own reserved
    obtain rfl := List.mem_singleton.mp mem
    refine second.cavity held charge number (fun j d other holds same =>
      other (own sh' mem j d holds same).2) (first.unnamed reserved ?_)
    rintro ⟨x, there, same⟩
    obtain ⟨holds, state⟩ := staged x there
    have here : x.1 = k := (own sh' mem x.1 x.2 holds same).2
    rw [here] at holds
    exact mould (Option.some.inj (held.symm.trans holds) ▸ state)

theorem scrapReady_newest (sealed : sealSequences sh.enabled ≠ []) :
    ((s.told .trace sh.readyScraps).ports.get .trace).notices.getLast? =
      some ⟨.scrapRecords (sealSequences sh.enabled), s.clock⟩ := by
  rw [Shot.readyScraps, if_neg sealed]
  exact s.told_newest .trace [] _

/-- The abort of the press-side shot (R118). -/
theorem abortPress_aborted (sh : Shot) (s : State) : Aborted True s [sh] (abortPress sh s) ∧
    (abortPress sh s).shc = { s.shc with
      press := some { sh.mapEnabled (fun _ c => c.emptied) with phase := .aborted } } ∧
    (abortPress sh s).ltr.rack = s.ltr.rack ∧
    (abortPress sh s).ports = { s.ports with
      handler := (abortPress sh s).ports.handler, trace := (abortPress sh s).ports.trace } ∧
    { abortPress sh s with shc := s.shc, ltr := s.ltr, hrg := s.hrg, ports := s.ports } = s := by
  obtain ⟨slots, seals, eq⟩ := scrapShot_eq sh s
  have low (h : s.LowCompared) := scrapShot_low sh h
  have into := SealsInto.aborts (cs := []) (fun _ mem => absurd mem List.not_mem_nil) (OnlySettles.refl _ _) seals
  obtain ⟨v, run⟩ : ∃ v, v = abortPress sh s := ⟨_, rfl⟩
  rw [← run]
  rw [abortPress, eq] at run
  rw [eq] at low
  subst run
  refine ⟨⟨rfl, rfl, into, rfl, ?_, rfl, fun sh' last sealed => ?_, fun _ => ?_, fun h => (low h).congr rfl, fun _ => rfl,
    rfl⟩, rfl, rfl, rfl, rfl⟩
  · rw [List.flatMap_singleton]
    rfl
  · obtain rfl : sh = sh' := Option.some.inj last
    exact scrapReady_newest sealed
  · rw [List.flatMap_singleton]
    rfl

/-- The cavities STAGED in a shot, with their records. -/
def Shot.staged (sh : Shot) : List (Fin 4 × Cavity) :=
  sh.enabled.filter fun x => x.2.state = .staged

theorem Shot.mem_staged {x : Fin 4 × Cavity} : x ∈ sh.staged ↔ sh.Holds x.1 x.2 ∧ x.2.state = .staged := by
  rw [Shot.staged, List.mem_filter, Shot.mem_enabled, decide_eq_true_iff]

theorem Shot.staged_apart (sh : Shot) : (sh.staged.map Prod.fst).Nodup := by
  have ascending : (sh.enabled.map Prod.fst).Nodup := sh.enabled_ascending.imp fun less => ne_of_lt less
  exact ascending.sublist (List.filter_sublist.map _)

/-- What the abort of the assembling shot leaves (R118, R120). -/
structure Abandoned (s : State) (sh : Shot) (reason : CloseOutcome) (t : State) : Prop where
  work : Aborted (sh.staged = []) s [sh] t
  shc : t.shc = { s.shc with assembling := none, heldClose := none }
  zct : t.zct = { s.zct with emptySince := t.emptyAfter s.zct.emptySince }
  rack : t.ltr.rack = s.rackReturned (sh.staged.filterMap fun x => x.2.returnsCharge)
  voided : ∀ x ∈ sh.staged, ∀ id q, x.2.chargeId = some id → x.2.sequence = some q → (s.rackRecord? id).isSome →
    s.hrg.slots.get (slotOf q) = .reserved q → t.hrg.slots.get (slotOf q) = .void q
  press : s.LowCompared ∨ sh.staged = [] → t.ports.press =
    (s.told .press (s.shc.heldClose.toList.map fun h => .closeEnded h.shot reason)).ports.press
  closeOutcome : t.ports.closeOutcome = if s.shc.heldClose.isSome then some reason else s.ports.closeOutcome
  claimOutcome : t.ports.claimOutcome = s.ports.claimOutcome
  rest : { t with shc := s.shc, zct := s.zct, ltr := s.ltr, hrg := s.hrg, ports := s.ports } = s

theorem abortAssembling_abandoned (there : s.shc.assembling = some sh) (reason : CloseOutcome) :
    Abandoned s sh reason (abortAssembling sh reason s) := by
  have ended := endClose_eq reason s
  obtain ⟨s1, first⟩ : ∃ s1, s1 = endClose reason s := ⟨_, rfl⟩
  rw [← first] at ended
  have there1 : s1.shc.assembling = some sh := by rw [ended]; exact there
  have held : s1.HoldsStaged sh.staged := fun x mem =>
    ⟨(assemblingCavity_of there1 x.1).trans (Shot.mem_staged.mp mem).1, (Shot.mem_staged.mp mem).2⟩
  have returns := foldl_returnCavity sh.staged_apart held
  have lowReturns (h : s1.LowCompared) := foldl_returnCavity_low (sh.staged.map Prod.fst) h
  obtain ⟨u, fold⟩ : ∃ u, u = (sh.staged.map Prod.fst).foldl (fun st k => returnCavity k st) s1 := ⟨_, rfl⟩
  rw [← fold] at returns lowReturns
  obtain ⟨slots, seals, scraps⟩ := scrapShot_eq sh u
  have lowScraps (h : u.LowCompared) := scrapShot_low sh h
  rw [scraps] at lowScraps
  have run : abortAssembling sh reason s = entryFreed { u with
      shc := { u.shc with assembling := none }
      ltr := { u.ltr with lots := u.lotsAfter sh.heldPlies none u.ltr.lots }
      hrg := { u.hrg with slots := slots }
      ports := { u.ports with
        trace := (u.told .trace sh.readyScraps).ports.trace
        handler := u.ports.handler.join ⟨.shotAborted sh.number, u.clock⟩ } } := by
    have stagedCavities : sh.stagedCavities = sh.staged.map Prod.fst := rfl
    rw [abortAssembling, ← first, stagedCavities, ← fold, scraps]
    rfl
  rw [entryFreed_eq] at run
  subst ended
  have clock : u.clock = s.clock := (congrArg State.clock returns.rest :)
  have scales : u.scales = s.scales := (congrArg State.scales returns.rest :)
  have ltr : u.ltr = { s.ltr with rack := s.rackReturned (sh.staged.filterMap fun x => x.2.returnsCharge) } := returns.ltr
  have hrg : u.hrg = { s.hrg with slots := u.hrg.slots, below := u.hrg.below } := returns.hrg
  have shc : u.shc = { s.shc with assembling := u.shc.assembling, heldClose := none } := returns.shc
  have ports : u.ports = { s.ports with
      press := u.ports.press, trace := u.ports.trace
      closeOutcome := if s.shc.heldClose.isSome then some reason else s.ports.closeOutcome } := returns.ports
  have kept (h : s.LowCompared ∨ sh.staged = []) : u.ports.trace = s.ports.trace ∧ u.ports.press =
      (s.told .press (s.shc.heldClose.toList.map fun h => .closeEnded h.shot reason)).ports.press := by
    rcases h with low | unstaged
    · rw [(lowReturns low).2]
      exact ⟨rfl, rfl⟩
    · rw [fold, unstaged]
      exact ⟨rfl, rfl⟩
  have records : scrapRecord u = scrapRecord s :=
    scrapRecord_congr clock (congrArg Hrg.wallOffset hrg :) (congrArg Hrg.wallSet hrg :)
  have into := (SealsInto.aborts (fun x mem => Shot.mem_staged.mp mem) returns.slots.settles seals).congr records
  have lots : u.lotsAfter sh.heldPlies none u.ltr.lots = s.lotsAfter ([sh].flatMap Shot.heldPlies) none s.ltr.lots := by
    rw [List.flatMap_singleton, ltr]
    exact State.lotsAfter_congr clock scales ..
  have handler : u.ports.handler = s.ports.handler := (congrArg Ports.handler ports :)
  have zct : u.zct = s.zct := (congrArg State.zct returns.rest :)
  rw [run]
  refine ⟨⟨clock, scales, into, ?_, ?_, ?_, ?_, fun h => ?_, fun h => ?_, fun unstaged => ?_, ?_⟩, ?_, ?_, ?_, ?_,
    fun h => (kept h).2, (congrArg Ports.closeOutcome ports :), (congrArg Ports.claimOutcome ports :), ?_⟩
  · exact (congrArg (fun h : Hrg => { h with slots := slots }) hrg :)
  · dsimp only
    rw [lots, ltr]
  · dsimp only
    rw [handler, clock]
    rfl
  · intro sh' last sealed
    obtain rfl : sh = sh' := Option.some.inj last
    exact scrapReady_newest sealed
  · rw [List.flatMap_singleton]
    exact State.told_get_congr .trace _ (kept h).1 clock
  · exact (lowScraps (lowReturns h).1).congr rfl
  · show u.hrg.below = s.hrg.below
    rw [fold, unstaged]
    rfl
  · exact (congrArg (fun p : Ports => { p with
      press := s.ports.press, handler := s.ports.handler, trace := s.ports.trace
      closeOutcome := s.ports.closeOutcome, claimOutcome := s.ports.claimOutcome }) ports :)
  · exact (congrArg (fun h : Shc => { h with assembling := none }) shc :)
  · rw [← zct]
    rfl
  · exact (congrArg Ltr.rack ltr :)
  · intro x mem id q charge number found reserved
    have void := returns.voided x mem id q charge number found reserved
    exact (seals.only.settled fun _ => by rw [void]; nofun).trans void
  · exact (congrArg (fun v : State => { v with shc := s.shc, zct := s.zct, ports := s.ports }) returns.rest :)

theorem Cavity.returnsCharge_iff {c : Cavity} {id : Nat} :
    c.returnsCharge = some id ↔ c.chargeId = some id ∧ ∃ q, c.sequence = some q := by
  unfold Cavity.returnsCharge
  cases c.sequence <;> simp

/-- The charges that the abort of a shot returns (R118). -/
theorem Shot.mem_returns {id : Nat} : id ∈ sh.staged.filterMap (fun x => x.2.returnsCharge) ↔
    ∃ k c q, sh.Holds k c ∧ c.state = .staged ∧ c.chargeId = some id ∧ c.sequence = some q := by
  simp only [List.mem_filterMap, Shot.mem_staged, Cavity.returnsCharge_iff, Prod.exists]
  constructor
  · rintro ⟨k, c, ⟨held, staged⟩, charge, q, number⟩
    exact ⟨k, c, q, held, staged, charge, number⟩
  · rintro ⟨k, c, q, held, staged, charge, number⟩
    exact ⟨k, c, ⟨held, staged⟩, charge, q, number⟩

theorem Shot.staged_nil (unstaged : ∀ k c, sh.Holds k c → c.state ≠ .staged) : sh.staged = [] :=
  List.eq_nil_iff_forall_not_mem.mpr fun x mem =>
    unstaged x.1 x.2 (Shot.mem_staged.mp mem).1 (Shot.mem_staged.mp mem).2

theorem Aborted.imp {quiet' : Prop} {shots : List Shot} (h : Aborted quiet s shots t) (weaker : quiet' → quiet) :
    Aborted quiet' s shots t :=
  { h with trace := fun q => h.trace (q.imp_right weaker), below := fun q => h.below (weaker q) }

/-! ### The press-side shot -/

theorem Phase.abortable_iff (ph : Phase) : ph.abortable = true ↔ ph = .closing ∨ ph = .bumping := by
  cases ph <;> simp [Phase.abortable]

theorem Phase.committed_iff (ph : Phase) : ph.committed = true ↔ ph = .curing ∨ ph = .cured ∨ ph = .opened := by
  cases ph <;> simp [Phase.committed]

theorem State.Aborts_eq (s : State) : s.Aborts = s.shotsToAbort := by
  have same (sh : Shot) : decide (sh.phase = .closing ∨ sh.phase = .bumping) = sh.phase.abortable := by
    rw [Bool.eq_iff_iff, decide_eq_true_iff, Phase.abortable_iff]
  simp only [State.Aborts, State.shotsToAbort, State.pressToAbort, same]
  cases s.shc.press with
  | none => rfl
  | some sh => cases h : sh.phase.abortable <;> simp [Option.filter_some, h]

theorem abortOther_none {number : Nat} (others : ∀ sh, s.shc.press = some sh → sh.number ≠ number) :
    abortOther number s = (s, .bare .badArgument) := by
  rw [abortOther]
  cases there : s.shc.press with
  | none => rfl
  | some sh => exact if_neg (others sh there)

theorem abortOther_of {number : Nat} (there : s.shc.press = some sh) (same : sh.number = number) :
    abortOther number s = abortPressSide sh s := by
  simp only [abortOther, there, if_pos same]

theorem abortShot_other {shot : BitVec 32} (others : ∀ sh, s.shc.assembling = some sh → sh.number ≠ shot.toNat) :
    abortShot shot s = abortOther shot.toNat s := by
  rw [abortShot]
  cases there : s.shc.assembling with
  | none => rfl
  | some sh => exact if_neg (others sh there)

/-! ### PRODUCTION RESET -/

/-- A shot as an abort of the press-side one leaves it: ABORTED, its cavities holding nothing (R118). -/
def Shot.emptied (sh : Shot) : Shot :=
  { sh.mapEnabled (fun _ c => c.emptied) with phase := .aborted }

/-- The press-side shot of a production reset, where there is one to abort (R120, step 2). -/
def clearPress (s : State) : State :=
  s.pressToAbort.elim s fun sh => abortPress sh s

theorem clearPress_aborted (s : State) : Aborted True s s.pressToAbort.toList (clearPress s) ∧
    (clearPress s).shc = { s.shc with
      press := s.shc.press.map fun sh => if sh.phase = .closing ∨ sh.phase = .bumping then sh.emptied else sh } ∧
    (clearPress s).ltr.rack = s.ltr.rack ∧
    (clearPress s).ports = { s.ports with
      handler := (clearPress s).ports.handler, trace := (clearPress s).ports.trace } ∧
    { clearPress s with shc := s.shc, ltr := s.ltr, hrg := s.hrg, ports := s.ports } = s := by
  cases there : s.shc.press with
  | none =>
    have absent : s.pressToAbort = none := by rw [State.pressToAbort, there]; rfl
    rw [clearPress, absent]
    refine ⟨.nil _ s, ?_, rfl, rfl, rfl⟩
    show s.shc = { s.shc with press := none }
    rw [← there]
  | some sh =>
    by_cases abortable : sh.phase = .closing ∨ sh.phase = .bumping
    · have found : s.pressToAbort = some sh := by
        rw [State.pressToAbort, there, Option.filter_some, if_pos ((Phase.abortable_iff _).mpr abortable)]
      rw [clearPress, found, Option.map_some, if_pos abortable]
      exact abortPress_aborted sh s
    · have absent : s.pressToAbort = none := by
        rw [State.pressToAbort, there, Option.filter_some, if_neg fun h => abortable ((Phase.abortable_iff _).mp h)]
      rw [clearPress, absent, Option.map_some, if_neg abortable]
      refine ⟨.nil _ s, ?_, rfl, rfl, rfl⟩
      show s.shc = { s.shc with press := some sh }
      rw [← there]

theorem pressToAbort_congr (press : t.shc.press = s.shc.press) : t.pressToAbort = s.pressToAbort := by
  rw [State.pressToAbort, press, State.pressToAbort]

theorem clearProduction_of (there : s.shc.assembling = some sh) : clearProduction s =
    endClaim .productionReset (endClose .productionReset (clearPress (abortAssembling sh .productionReset s))) := by
  have h := abortAssembling_abandoned there .productionReset
  have press := pressToAbort_congr (congrArg Shc.press h.shc :)
  rw [clearProduction, there, clearPress, press]
  cases s.pressToAbort <;> rfl

theorem clearProduction_none (absent : s.shc.assembling = none) : clearProduction s =
    endClaim .productionReset (endClose .productionReset (clearPress s)) := by
  rw [clearProduction, absent, clearPress]
  cases s.pressToAbort <;> rfl

/-- The held close and a pending claim end (R120, steps 3 and 4). -/
theorem endHeld_eq (s : State) : endClaim .productionReset (endClose .productionReset s) = { s with
    shc := { s.shc with heldClose := none }
    dmi := { s.dmi with claim := none }
    ports := { s.ports with
      press := (s.told .press (s.shc.heldClose.toList.map fun h => .closeEnded h.shot .productionReset)).ports.press
      closeOutcome := if s.shc.heldClose.isSome then some .productionReset else s.ports.closeOutcome
      claimOutcome := if s.dmi.claim.isSome then some .productionReset else s.ports.claimOutcome } } := by
  rw [endClaim_eq, endClose_eq]

/-- Settles O54. -/
theorem abortsReturnOrScrapTheCharges : Obligations.AbortsReturnOrScrapTheCharges := by
  intro s shot request reset returned voided noneStaged aborted closeEnds numbers empty
  have asks : request = .next (s.replied .press (abortShot shot s).2 (abortShot shot s).1) :=
    exec_asked (i := .abortShot .press shot) rfl
  have resets : reset = .next (s.replied .press (productionReset s).2 (productionReset s).1) :=
    exec_asked (i := .productionReset .press) rfl
  have words {shots : List Shot} {t : State} (h : Aborted noneStaged s shots t) : aborted shots t := by
    refine ⟨h.slots.sealed, fun i apart => h.slots.only.apart fun q ⟨sh, mem, k, c, held, number⟩ =>
      apart sh mem k c q held number, h.hrg, ?_, h.handler, h.newest, h.trace, h.low, h.below, h.ports⟩
    rw [State.lotsAfter_congr h.clock h.scales]
    exact h.ltr
  have back {sh : Shot} {t : State}
      (rack : t.ltr.rack = s.rackReturned (sh.staged.filterMap fun x => x.2.returnsCharge)) : returned sh t := by
    refine ⟨by rw [rack, State.rackReturned, List.length_map], fun i x r here found => ?_⟩
    have after : t.ltr.rack[i]? = some (s.recordReturned (sh.staged.filterMap fun x => x.2.returnsCharge) x) := by
      rw [rack, State.rackReturned, List.getElem?_map, here]
      rfl
    refine ⟨fun staged => ⟨s.returnState r, s.returnState_returnsAs r, ?_⟩, fun unstaged => ?_⟩
    · rw [after, State.recordReturned, if_pos (Shot.mem_returns.mpr staged), found]
      rfl
    · rw [after, State.recordReturned_of_notMem fun mem => unstaged (Shot.mem_returns.mp mem)]
  have alone {sh : Shot} (there : s.shc.assembling = some sh) (unstaged : noneStaged) : sh.staged = [] :=
    Shot.staged_nil fun k c => unstaged sh k c there
  refine ⟨fun sh there same => ?_, fun sh others there same => ⟨fun phase => ?_, fun notClosing notBumping => ?_⟩,
    fun others absent => ?_, fun sh there phase => ?_, fun free => ?_⟩
  · have h := abortAssembling_abandoned there .aborted
    have run : abortShot shot s = (abortAssembling sh .aborted s, ⟨.ok, sealedReply sh⟩) := by
      simp only [abortShot, there, if_pos same]
    rw [asks, run]
    exact ⟨_, rfl, h.shc, ⟨h.closeOutcome, fun q => h.press (q.imp_right (alone there))⟩, h.claimOutcome, h.zct,
      back h.rack, fun k c id q held staged => h.voided (k, c) (Shot.mem_staged.mpr ⟨held, staged⟩) id q,
      words (h.work.imp (alone there)), h.rest⟩
  · obtain ⟨work, shc, rack, ports, rest⟩ := abortPress_aborted sh s
    have run : abortShot shot s = (abortPress sh s, ⟨.ok, sealedReply sh⟩) := by
      rw [abortShot_other others, abortOther_of there same, abortPressSide]
      rcases phase with phase | phase <;> simp only [phase]
    rw [asks, run]
    exact ⟨_, rfl, shc, rack, words (work.imp fun _ => trivial), (congrArg Ports.press ports :),
      (congrArg Ports.closeOutcome ports :), (congrArg Ports.claimOutcome ports :), rest⟩
  · rw [asks, abortShot_other others, abortOther_of there same, abortPressSide]
    cases phase : sh.phase with
    | closing => exact absurd phase notClosing
    | bumping => exact absurd phase notBumping
    | assembling | curing | cured | opened | aborted => rfl
  · rw [asks, abortShot_other others, abortOther_none absent]
  · have committed : (s.shc.press.any fun sh => sh.phase.committed) = true := by
      rw [there]
      exact (Phase.committed_iff sh.phase).mpr phase
    rw [resets, productionReset, if_pos committed]
  · have uncommitted : ¬ (s.shc.press.any fun sh => sh.phase.committed) = true := by
      rw [Option.any_eq_true]
      rintro ⟨sh, there, committed⟩
      have phase := (Phase.committed_iff sh.phase).mp committed
      have free := free sh there
      simp only [free, or_self] at phase
    rw [resets, productionReset, if_neg uncommitted, State.Aborts_eq]
    cases there : s.shc.assembling with
    | some sh =>
      have h := abortAssembling_abandoned there .productionReset
      rw [clearProduction_of there, endHeld_eq]
      obtain ⟨t, run⟩ : ∃ t, t = abortAssembling sh .productionReset s := ⟨_, rfl⟩
      rw [← run] at h ⊢
      obtain ⟨work, shc, rack, ports, rest⟩ := clearPress_aborted t
      obtain ⟨v, run⟩ : ∃ v, v = clearPress t := ⟨_, rfl⟩
      rw [← run] at work shc rack ports rest ⊢
      have shots : s.shotsToAbort = [sh] ++ t.pressToAbort.toList := by
        rw [State.shotsToAbort, there, pressToAbort_congr (congrArg Shc.press h.shc :)]
        rfl
      have all := (h.work.append work).imp (alone there)
      rw [← shots] at all
      have dmi : v.dmi = s.dmi := (congrArg State.dmi rest :).trans (congrArg State.dmi h.rest :)
      have unheld : v.shc.heldClose = none := by rw [shc, h.shc]
      have claimed : v.ports.claimOutcome = s.ports.claimOutcome :=
        (congrArg Ports.claimOutcome ports :).trans h.claimOutcome
      have closed : v.ports.closeOutcome = _ := (congrArg Ports.closeOutcome ports :).trans h.closeOutcome
      have pressPort : v.ports.press = t.ports.press := (congrArg Ports.press ports :)
      refine ⟨_, rfl, ?_, ?_, ?_, ⟨?_, fun q => ?_⟩, words (all.congr rfl rfl rfl rfl rfl), fun sh' same => ?_,
        nofun, ?_⟩
      · show { v.shc with heldClose := none } = _
        rw [shc, h.shc]
        rfl
      · show { v.dmi with claim := none } = _
        rw [dmi]
      · show (if v.dmi.claim.isSome then _ else v.ports.claimOutcome) = _
        rw [dmi, claimed]
      · show (if v.shc.heldClose.isSome then _ else v.ports.closeOutcome) = _
        rw [unheld, closed]
        rfl
      · show (v.told .press (v.shc.heldClose.toList.map _)).ports.press = _
        rw [unheld]
        exact pressPort.trans (h.press (q.imp_right (alone there)))
      · obtain rfl : sh = sh' := Option.some.inj same
        refine ⟨?_, back (rack.trans h.rack), fun k c id q held staged charge number found reserved => ?_⟩
        · have zct : v.zct = t.zct := (congrArg State.zct rest :)
          have steady : v.emptyAfter = t.emptyAfter := by
            have tables : v.tableEmpty = t.tableEmpty := by
              rw [State.tableEmpty, State.tableEmpty, shc, Option.isNone_map]
            have clock : v.clock = t.clock := work.clock
            funext before
            rw [State.emptyAfter, State.emptyAfter, tables, zct, clock]
          show v.zct = { s.zct with emptySince := v.emptyAfter s.zct.emptySince }
          rw [zct, steady]
          exact h.zct
        · have void := h.voided (k, c) (Shot.mem_staged.mpr ⟨held, staged⟩) id q charge number found reserved
          exact (work.slots.only.settled fun _ => by rw [void]; nofun).trans void
      · exact (congrArg (fun x : State => { x with
          shc := s.shc, zct := s.zct, ltr := s.ltr, dmi := s.dmi, hrg := s.hrg, ports := s.ports }) rest :).trans
          (congrArg (fun x : State => { x with dmi := s.dmi }) h.rest :)
    | none =>
      obtain ⟨work, shc, rack, ports, rest⟩ := clearPress_aborted s
      have shots : s.shotsToAbort = s.pressToAbort.toList := by rw [State.shotsToAbort, there]; rfl
      have unassembled : s.shc = { s.shc with assembling := none } := by rw [← there]
      rw [clearProduction_none there, endHeld_eq]
      obtain ⟨v, run⟩ : ∃ v, v = clearPress s := ⟨_, rfl⟩
      rw [← run] at work shc rack ports rest ⊢
      rw [← shots] at work
      have all := work.imp (quiet' := noneStaged) fun _ => trivial
      have dmi : v.dmi = s.dmi := (congrArg State.dmi rest :)
      have heldClose : v.shc.heldClose = s.shc.heldClose := (congrArg Shc.heldClose shc :)
      have claimed : v.ports.claimOutcome = s.ports.claimOutcome := (congrArg Ports.claimOutcome ports :)
      have closed : v.ports.closeOutcome = s.ports.closeOutcome := (congrArg Ports.closeOutcome ports :)
      have clock : v.clock = s.clock := work.clock
      refine ⟨_, rfl, ?_, ?_, ?_, ⟨?_, fun _ => ?_⟩, words (all.congr rfl rfl rfl rfl rfl),
        nofun, fun _ => ⟨(congrArg State.zct rest :), rack⟩, ?_⟩
      · show { v.shc with heldClose := none } = _
        rw [shc, unassembled]
        rfl
      · show { v.dmi with claim := none } = _
        rw [dmi]
      · show (if v.dmi.claim.isSome then _ else v.ports.claimOutcome) = _
        rw [dmi, claimed]
      · show (if v.shc.heldClose.isSome then _ else v.ports.closeOutcome) = _
        rw [heldClose, closed]
      · show (v.told .press (v.shc.heldClose.toList.map _)).ports.press = _
        rw [heldClose]
        exact State.told_get_congr .press _ (congrArg Ports.press ports :) clock
      · exact (congrArg (fun x : State => { x with dmi := s.dmi, zct := s.zct }) rest :)

end Sys2Proof.Machine
end

section
/-! PROOFS. The deadlines of the run-second now ending (R124; log entry 7): with none due nothing happens, and none reaches more
of the press-side shot than flags. -/

namespace Sys2Proof.Machine

variable {s : State} {sh : Shot}

/-! ### No deadline due -/

theorem timeoutTare_quiet {k : Fin 2}
    (early : ∀ d, (s.scales.get k).state = .taring → (s.scales.get k).deadline = some d → s.clock < d) :
    timeoutTare k s = s := by
  refine if_neg fun due => ?_
  simp only [State.tareDue, Bool.and_eq_true, beq_iff_eq, Option.any_eq_true, decide_eq_true_eq] at due
  obtain ⟨taring, d, deadline, past⟩ := due
  exact absurd (early d taring deadline) (Nat.not_lt.mpr past)

theorem timeoutCapture_quiet {k : Fin 2}
    (early : ∀ d, (s.scales.get k).state = .capturing → (s.scales.get k).deadline = some d → s.clock < d) :
    timeoutCapture k s = s := by
  unfold timeoutCapture
  split
  · rfl
  · refine if_neg fun due => ?_
    simp only [State.captureDue, Bool.and_eq_true, beq_iff_eq, Option.any_eq_true, decide_eq_true_eq] at due
    obtain ⟨capturing, d, deadline, past⟩ := due
    exact absurd (early d capturing deadline) (Nat.not_lt.mpr past)

theorem expireCharges_quiet (early : ∀ r ∈ s.ltr.rack, r.charge.outDeadline ≠ s.clock) : expireCharges s = s := by
  refine List.foldl_fixed' (fun id => ?_) _
  cases found : s.rackRecord? id with
  | none => rw [expireCharge, found]
  | some r =>
    have other := early r (List.mem_of_find?_eq_some found)
    exact expireCharge_quiet found (by simp [State.expiring, other])

theorem examineDeadlines_quiet (early : s.shc.heldClose.isSome → ∀ sh k c h, s.shc.assembling = some sh → sh.Holds k c →
    c.charge = some h → s.clock < h.outDeadline) : examineDeadlines s = s := by
  refine if_neg fun overdue => ?_
  simp only [State.closeOverdue, Bool.and_eq_true, Option.any_eq_true] at overdue
  obtain ⟨held, sh, there, first⟩ := overdue
  have timely : sh.enabled.find? (fun x => x.2.overdue s.clock) = none :=
    Shot.find?_enabled_none fun k c holds => by
      rw [← Bool.not_eq_true, Cavity.overdue_iff]
      rintro ⟨h, charge, past⟩
      exact absurd (early held sh k c h there holds charge) (Nat.not_lt.mpr past)
  rw [Shot.firstOverdue, timely] at first
  cases first

theorem endWindow_early (early : ∀ d, s.dmi.demould = some d → d.lateGiven = true ∨ s.clock < d.deadline) :
    endWindow s = s := by
  cases opening : s.opening with
  | none => exact endWindow_none opening
  | some x =>
    obtain ⟨sh, d⟩ := x
    exact endWindow_quiet opening (early d (State.opening_eq_some.mp opening).2.2)

theorem endStandbyWait_quiet (early : ∀ t, s.zct.emptySince = some t →
    t ≤ s.clock ∧ (s.zct.stepDelay = 0 ∨ s.clock - t < s.zct.stepDelay * 60)) : endStandbyWait s = s := by
  refine if_neg fun due => ?_
  simp only [State.standbyDue, State.waitOver, Bool.and_eq_true] at due
  cases waiting : s.zct.emptySince with
  | none => simp [waiting] at due
  | some t =>
    obtain ⟨past, off | short⟩ := early t waiting
    · simp [waiting, off] at due
    · simp only [waiting, elapsed, past, if_true, decide_eq_true_eq, Bool.and_eq_true] at due
      obtain ⟨⟨-, -, long⟩, -⟩ := due
      exact absurd short (Nat.not_lt.mpr long)

theorem ageLots_quiet (early : ∀ l ∈ s.ltr.lots, l.lastSeen ≤ s.clock ∧
    (s.lotInUse l = true ∨ s.clock - l.lastSeen ≤ s.ltr.stepAging * 60)) : ageLots s = s := by
  have kept : s.ltr.lots.filter (fun l => !s.lotOld l) = s.ltr.lots := by
    refine List.filter_eq_self.mpr fun l mem => ?_
    obtain ⟨past, young⟩ := early l mem
    rcases young with use | young
    · simp [State.lotOld, use]
    · simp [State.lotOld, elapsed, past, young]
  rw [ageLots, kept]
  rfl

theorem finishSecond_quiet (quiet : s.NothingDue) : finishSecond s = s := by
  obtain ⟨scales, rack, close, window, standby, lots⟩ := quiet
  rw [finishSecond, timeoutTare_quiet fun d taring => scales 0 d (.inl taring),
    timeoutTare_quiet fun d taring => scales 1 d (.inl taring),
    timeoutCapture_quiet fun d capturing => scales 0 d (.inr capturing),
    timeoutCapture_quiet fun d capturing => scales 1 d (.inr capturing), expireCharges_quiet rack,
    examineDeadlines_quiet close, endWindow_early window, endStandbyWait_quiet standby, ageLots_quiet lots]

/-! ### Whatever is due -/

/-- A shot with the flags of its cavities replaced. -/
def Shot.withFlags (sh : Shot) (flags : Cavity → CavityFlags) : Shot :=
  { sh with cavities := Table.ofFn fun k => (sh.cavities.get k).map fun c => { c with flags := flags c } }

theorem Shot.withFlags_get (sh : Shot) (flags : Cavity → CavityFlags) (k : Fin 4) :
    (sh.withFlags flags).cavities.get k = (sh.cavities.get k).map fun c => { c with flags := flags c } :=
  Table.get_ofFn ..

theorem Shot.withFlags_same (sh : Shot) : sh.withFlags Cavity.flags = sh := by
  have cavities : (sh.withFlags Cavity.flags).cavities = sh.cavities := Table.ext_get fun k => by
    rw [sh.withFlags_get]
    exact Option.map_id'
  show { sh with cavities := (sh.withFlags Cavity.flags).cavities } = sh
  rw [cavities]

theorem Shot.flagged_eq (sh : Shot) (f : CavityFlags → CavityFlags) : sh.flagged f =
    sh.withFlags fun c => if c.state = .curing ∨ c.state = .stuck then f c.flags else c.flags := by
  have same (c : Cavity) : (if decide (c.state = .curing ∨ c.state = .stuck) then { c with flags := f c.flags } else c) =
      { c with flags := if c.state = .curing ∨ c.state = .stuck then f c.flags else c.flags } := by
    by_cases untaken : c.state = .curing ∨ c.state = .stuck
    · rw [if_pos (decide_eq_true untaken), if_pos untaken]
    · rw [if_neg (by simpa using untaken), if_neg untaken]
  simp only [Shot.flagged, same]
  rfl

/-- The demould window reaches no more of the press-side shot than flags (R148). -/
theorem endWindow_shc (s : State) : ∃ flags,
    (endWindow s).shc = { s.shc with press := s.shc.press.map fun sh => sh.withFlags flags } ∧
    (endWindow s).dmi.holder = s.dmi.holder := by
  have same : s.shc = { s.shc with press := s.shc.press.map fun sh => sh.withFlags Cavity.flags } := by
    simp only [Shot.withFlags_same, Option.map_id']
  cases opening : s.opening with
  | none =>
    rw [endWindow_none opening]
    exact ⟨Cavity.flags, same, rfl⟩
  | some x =>
    obtain ⟨sh, d⟩ := x
    obtain ⟨there, phase, -⟩ := State.opening_eq_some.mp opening
    by_cases early : d.lateGiven = true ∨ s.clock < d.deadline
    · rw [endWindow_quiet opening early]
      exact ⟨Cavity.flags, same, rfl⟩
    · obtain ⟨unset, due⟩ := not_or.mp early
      rw [endWindow_due opening (Bool.eq_false_iff.mpr unset) (Nat.not_lt.mp due), flagUntaken_of there phase,
        Shot.flagged_eq, there]
      exact ⟨_, rfl, rfl⟩

/-- A held close whose charge is overdue is refused (R109, R110). -/
theorem closeRefusal_of_overdue (overdue : s.closeOverdue = true) : ∃ a why, s.closeRefusal = some (a, why) := by
  simp only [State.closeOverdue, Bool.and_eq_true, Option.any_eq_true] at overdue
  obtain ⟨-, sh, there, late⟩ := overdue
  obtain ⟨k, late⟩ := Option.isSome_iff_exists.mp late
  cases press : s.shc.press with
  | some _ => exact ⟨_, _, closeRefusal_noShot (.inr (by rw [press]; rfl))⟩
  | none =>
    cases loaded : sh.notLoaded with
    | some j => exact ⟨_, _, closeRefusal_notLoaded there press loaded⟩
    | none => exact ⟨_, _, closeRefusal_overdue there press loaded late⟩

theorem examineDeadlines_shc (s : State) :
    (examineDeadlines s).shc = { s.shc with heldClose := (examineDeadlines s).shc.heldClose } ∧
    (examineDeadlines s).dmi = s.dmi := by
  unfold examineDeadlines
  by_cases overdue : s.closeOverdue = true
  · obtain ⟨a, why, refused⟩ := closeRefusal_of_overdue overdue
    obtain ⟨h, held⟩ := Option.isSome_iff_exists.mp (Bool.and_eq_true_iff.mp overdue).1
    rw [if_pos overdue, reexamine_refused held refused, endClose_eq]
    exact ⟨rfl, rfl⟩
  · rw [if_neg overdue]
    exact ⟨rfl, rfl⟩

/-- What the deadlines of the second now ending leave of the press-side shot, the mounted recipe, a held open and the lock. -/
theorem finishSecond_press (s : State) : ∃ flags,
    (finishSecond s).shc.press = s.shc.press.map (fun sh => sh.withFlags flags) ∧
    (s.NothingDue → flags = Cavity.flags) ∧ (finishSecond s).recipe = s.recipe ∧
    (finishSecond s).shc.heldOpen = s.shc.heldOpen ∧ (finishSecond s).dmi.holder = s.dmi.holder := by
  by_cases quiet : s.NothingDue
  · rw [finishSecond_quiet quiet]
    exact ⟨Cavity.flags, by simp only [Shot.withFlags_same, Option.map_id'], fun _ => rfl, rfl, rfl, rfl⟩
  · obtain ⟨u, before⟩ : ∃ u, u = expireCharges (timeoutCapture 1 (timeoutCapture 0 (timeoutTare 1 (timeoutTare 0 s)))) :=
      ⟨_, rfl⟩
    have shc : u.shc = s.shc := by simp [before]
    have dmi : u.dmi = s.dmi := by simp [before]
    obtain ⟨examined, lock⟩ := examineDeadlines_shc u
    obtain ⟨flags, flagged, holder⟩ := endWindow_shc (examineDeadlines u)
    have finished : (finishSecond s).shc = (endWindow (examineDeadlines u)).shc := by
      rw [finishSecond, ← before, ageLots_shc, endStandbyWait_shc]
    have locked : (finishSecond s).dmi = (endWindow (examineDeadlines u)).dmi := by
      rw [finishSecond, ← before, ageLots_dmi, endStandbyWait_dmi]
    rw [examined, shc] at flagged
    refine ⟨flags, ?_, fun h => absurd h quiet, ?_, ?_, ?_⟩
    · rw [finished, flagged]
    · rw [State.recipe, finished, flagged]
      rfl
    · rw [finished, flagged]
    · rw [locked, holder, lock, dmi]

end Sys2Proof.Machine
end

section
/-! PROOFS. The counting of cure and its declaration (R124 to R131, R115). -/

namespace Sys2Proof.Machine

variable {s t : State} {sh : Shot} {c : Cavity} {k : Fin 4} {u : Cure} {r : Recipe}

/-! ### One second of one cavity -/

theorem accounted_iff {ph : Phase} {st : CavityState} : accounted ph st = true ↔
    (st = .curing ∧ (ph = .curing ∨ ph = .cured ∨ ph = .opened)) ∨ (st = .stuck ∧ ph = .opened) := by
  cases ph <;> simp [accounted]

theorem mem_maskZones {m : BitVec 12} {z : Fin 12} : z ∈ maskZones m ↔ m.getLsbD z.val = true := by
  simp [maskZones]

theorem State.blindMask_iff {m : BitVec 12} :
    s.blindMask m = true ↔ ∃ z : Fin 12, m.getLsbD z.val = true ∧ s.judged z ≠ .ok := by
  simp [State.blindMask, mem_maskZones]

theorem State.cutMask_iff {m : BitVec 12} :
    s.cutMask m = true ↔ ∃ z : Fin 12, m.getLsbD z.val = true ∧ (s.hbo.shares.get z).cut = true := by
  simp [State.cutMask, mem_maskZones]

theorem State.effective_of {m : BitVec 12} {t : Int} (least : ∀ z : Fin 12, m.getLsbD z.val = true →
    t ≤ (s.msq.tc.get z).value) (reached : ∃ z : Fin 12, m.getLsbD z.val = true ∧ (s.msq.tc.get z).value = t) :
    s.effective m = some t := by
  rw [State.effective, List.min?_eq_some_iff]
  obtain ⟨z, inMask, value⟩ := reached
  refine ⟨List.mem_map.mpr ⟨z, mem_maskZones.mpr inMask, value⟩, fun b mem => ?_⟩
  obtain ⟨y, there, rfl⟩ := List.mem_map.mp mem
  exact least y (mem_maskZones.mp there)

theorem State.countCure_blind {m : BitVec 12} (rates : List Breakpoint) (u : Cure) (blind : s.blindMask m = true) :
    s.countCure m rates u = u.blinded.passed (s.cutMask m) := by
  simp only [State.countCure, blind]

theorem State.countCure_counted {m : BitVec 12} {t : Int} (rates : List Breakpoint) (u : Cure)
    (seen : s.blindMask m = false) (effective : s.effective m = some t) :
    s.countCure m rates u = (u.counted t (rateOf rates t)).passed (s.cutMask m) := by
  simp only [State.countCure, seen, effective]

/-- A second of cure is a blind or a counted one (R125, R126). -/
theorem State.countCure_cases (s : State) (m : BitVec 12) (rates : List Breakpoint) (u : Cure) :
    s.countCure m rates u = u.blinded.passed (s.cutMask m) ∨
      ∃ t, s.countCure m rates u = (u.counted t (rateOf rates t)).passed (s.cutMask m) := by
  unfold State.countCure
  split
  · exact .inr ⟨_, rfl⟩
  · exact .inl rfl

theorem State.countCure_seconds (s : State) (m : BitVec 12) (rates : List Breakpoint) (u : Cure) :
    (s.countCure m rates u).seconds = min Config.maxWord (u.seconds + 1) ∧
      (s.countCure m rates u).accounting = u.accounting ∧
      (s.countCure m rates u).throttled = if s.cutMask m then min 65535 (u.throttled + 1) else u.throttled := by
  rcases s.countCure_cases m rates u with blind | ⟨t, counted⟩
  · rw [blind]
    exact ⟨rfl, rfl, rfl⟩
  · rw [counted]
    exact ⟨rfl, rfl, rfl⟩

theorem State.index_le_countCure (s : State) (m : BitVec 12) (rates : List Breakpoint) (held : u.index ≤ Config.maxWord) :
    u.index ≤ (s.countCure m rates u).index := by
  rcases s.countCure_cases m rates u with blind | ⟨t, counted⟩
  · rw [blind]
    exact le_rfl
  · rw [counted]
    exact le_min held (Nat.le_add_right ..)

/-- The extremes of a counted second (R129). -/
theorem Cure.counted_extremes (u : Cure) (t : Int) (rate : Nat) :
    (u.counted t rate).minT = some (min t (u.minT.getD t)) ∧ (u.counted t rate).maxT = some (max t (u.maxT.getD t)) := by
  unfold Cure.counted
  cases u.minT <;> cases u.maxT <;> simp [min_comm, max_comm]

/-- The second of a cavity with cure fields (R124). -/
theorem State.countCavity_of {ph : Phase} (cure : c.cure = some u) : s.countCavity r ph k c = { c with
    cure := some (if accounted ph c.state then s.countCure (r.cavities.get k).mask r.rates.toList u else u) } := by
  rw [State.countCavity, cure]
  split
  · rfl
  · rw [← cure]

theorem State.countCavity_none {ph : Phase} (uncured : c.cure = none) : s.countCavity r ph k c = c := by
  rw [State.countCavity, uncured, Option.map_none, ← uncured]
  exact ite_self _

/-! ### The shot of a second -/

/-- A shot with every cavity's second counted (R124). -/
def State.counted (s : State) (r : Recipe) (sh : Shot) : Shot :=
  sh.mapEnabled fun k c => s.countCavity r sh.phase k c

theorem countShot_of (there : s.shc.press = some sh) (mounted : s.recipe = some r) :
    countShot s = s.setPress (s.counted r sh) := by
  rw [countShot, mounted]
  show s.modifyPress _ = _
  rw [State.modifyPress, there]
  rfl

theorem State.counted_get (s : State) (r : Recipe) (sh : Shot) (k : Fin 4) :
    (s.counted r sh).cavities.get k = (sh.cavities.get k).map fun c => s.countCavity r sh.phase k c :=
  Table.get_mapIdx ..

/-! ### The declaration -/

/-- Every enabled cavity's index has reached the target (R131). -/
def Shot.Ripe (sh : Shot) (r : Recipe) : Prop :=
  ∀ k c, sh.Holds k c → r.cureTarget ≤ (c.cure.map fun u => u.index).getD 0

theorem Shot.ripe_iff : (sh.indices.all fun x => decide (r.cureTarget ≤ x.2)) = true ↔ sh.Ripe r := by
  rw [Shot.indices, List.all_map, List.all_eq_true]
  constructor
  · exact fun all k c held => of_decide_eq_true (all (k, c) (Shot.mem_enabled.mpr held))
  · exact fun ripe x mem => decide_eq_true (ripe x.1 x.2 (Shot.mem_enabled.mp mem))

theorem curedShot_of (there : s.shc.press = some sh) (mounted : s.recipe = some r) (curing : sh.phase = .curing)
    (ripe : sh.Ripe r) : s.curedShot = some sh := by
  rw [State.curedShot, mounted]
  dsimp only
  rw [pressIn_of there curing, Option.filter_some, if_pos (Shot.ripe_iff.mpr ripe)]

theorem curedShot_none (there : s.shc.press = some sh) (mounted : s.recipe = some r)
    (h : sh.phase ≠ .curing ∨ ¬ sh.Ripe r) : s.curedShot = none := by
  rw [State.curedShot, mounted]
  dsimp only
  by_cases curing : sh.phase = .curing
  · have unripe := h.resolve_left fun other => other curing
    rw [pressIn_of there curing, Option.filter_some, if_neg fun ripe => unripe (Shot.ripe_iff.mp ripe)]
  · rw [pressIn_none fun sh' there' => Option.some.inj (there.symm.trans there') ▸ curing, Option.filter_none]

theorem declareCure_quiet (undeclared : s.curedShot = none) : declareCure s = s := by
  rw [declareCure, undeclared]

/-- With no press-side shot or no recipe, nothing is counted or declared (R124, R131). -/
theorem declare_count_absent (h : s.shc.press = none ∨ s.recipe = none) : declareCure (countShot s) = s := by
  cases mounted : s.recipe with
  | none =>
    have uncounted : countShot s = s := by rw [countShot, mounted]
    rw [uncounted, declareCure_quiet (by rw [State.curedShot, mounted])]
  | some r =>
    have absent : s.shc.press = none := h.resolve_right (by simp [mounted])
    have uncounted : countShot s = s := by
      rw [countShot, mounted]
      show s.modifyPress _ = s
      rw [State.modifyPress, absent, Option.map_none, ← absent]
    have undeclared : s.curedShot = none := by
      rw [State.curedShot, mounted]
      dsimp only
      rw [pressIn_none fun sh there => absurd (absent.symm.trans there) nofun, Option.filter_none]
    rw [uncounted, declareCure_quiet undeclared]

/-- A held open granted at the declaration of cure (R115). -/
theorem grantOpen_eq (s : State) : grantOpen s = { s with
    shc := { s.shc with heldOpen := none }
    ports := { s.ports with
      press := (s.told .press (s.shc.heldOpen.toList.map .openGranted)).ports.press
      openOutcome := if s.shc.heldOpen.isSome then some .granted else s.ports.openOutcome } } := by
  unfold grantOpen
  split
  · rename_i absent
    have same : s.shc = { s.shc with heldOpen := none } := by rw [← absent]
    rw [absent, ← same]
    rfl
  · rename_i n held
    simp only [held]
    rfl

theorem grantOpen_setPress (s : State) (x : Shot) : grantOpen (s.setPress x) = { s with
    shc := { s.shc with press := some x, heldOpen := none }
    ports := { s.ports with
      press := (s.told .press (s.shc.heldOpen.toList.map .openGranted)).ports.press
      openOutcome := if s.shc.heldOpen.isSome then some .granted else s.ports.openOutcome } } := by
  have same := State.told_get_congr (s := s.setPress x) (t := s) .press (s.shc.heldOpen.toList.map .openGranted) rfl rfl
  rw [grantOpen_eq]
  exact (congrArg (fun q : PortState => { s with
    shc := { s.shc with press := some x, heldOpen := none }
    ports := { s.ports with
      press := q
      openOutcome := if s.shc.heldOpen.isSome then some .granted else s.ports.openOutcome } }) same :)

/-- The declaration of cure, with a held open granted before it (R115, R131; log entry 17). -/
theorem declareCure_of (there : s.shc.press = some sh) (mounted : s.recipe = some r) (curing : sh.phase = .curing)
    (ripe : sh.Ripe r) : declareCure s = { s with
      shc := { s.shc with
        press := some { sh with phase := .cured, times := { sh.times with cured := some s.clock } }
        heldOpen := none }
      ports := { s.ports with
        press := (s.told .press
          (s.shc.heldOpen.toList.map NoticeBody.openGranted ++ [.cured sh.number s.clock sh.indices])).ports.press
        openOutcome := if s.shc.heldOpen.isSome then some .granted else s.ports.openOutcome } } := by
  have steady := State.told_eq s .press (s.shc.heldOpen.toList.map NoticeBody.openGranted)
  rw [declareCure, curedShot_of there mounted curing ripe]
  dsimp only
  rw [grantOpen_setPress, State.told_append, steady]
  rfl

/-- What the declaration of cure leaves of the press-side shot (R131). -/
theorem declareCure_press (there : s.shc.press = some sh) (mounted : s.recipe = some r) : ∃ sh',
    (declareCure s).shc.press = some sh' ∧ sh' = { sh with phase := sh'.phase, times := sh'.times } ∧
    (sh.phase = .curing → sh.Ripe r → sh'.phase = .cured ∧ sh'.times = { sh.times with cured := some s.clock }) ∧
    (sh.phase ≠ .curing ∨ ¬ sh.Ripe r → sh'.phase = sh.phase ∧ sh'.times = sh.times) := by
  by_cases declared : sh.phase = .curing ∧ sh.Ripe r
  · rw [declareCure_of there mounted declared.1 declared.2]
    exact ⟨_, rfl, rfl, fun _ _ => ⟨rfl, rfl⟩, fun h => absurd declared (not_and_or.mpr h)⟩
  · rw [declareCure_quiet (curedShot_none there mounted (not_and_or.mp declared))]
    exact ⟨sh, there, rfl, fun curing ripe => absurd ⟨curing, ripe⟩ declared, fun _ => ⟨rfl, rfl⟩⟩

/-- The accountant and the declaration change the press-side shot, a held open and the ports (R124, R131). -/
theorem declare_count_frame (s : State) : declareCure (countShot s) = { s with
    shc := { s.shc with
      press := (declareCure (countShot s)).shc.press, heldOpen := (declareCure (countShot s)).shc.heldOpen }
    ports := (declareCure (countShot s)).ports } := by
  by_cases absent : s.shc.press = none ∨ s.recipe = none
  · rw [declare_count_absent absent]
  · obtain ⟨press, recipe⟩ := not_or.mp absent
    obtain ⟨sh, there⟩ := Option.ne_none_iff_exists'.mp press
    obtain ⟨r, mounted⟩ := Option.ne_none_iff_exists'.mp recipe
    rw [countShot_of there mounted]
    by_cases declared : (s.counted r sh).phase = .curing ∧ (s.counted r sh).Ripe r
    · rw [declareCure_of (s := s.setPress (s.counted r sh)) rfl mounted declared.1 declared.2]
      rfl
    · rw [declareCure_quiet (curedShot_none (s := s.setPress (s.counted r sh)) rfl mounted (not_and_or.mp declared))]
      rfl

/-! ### The step of the run clock -/

/-- The run clock's step, and the counters a second's examinations use (R16, R84, R124). -/
theorem advanceClock_eq (s : State) : ∃ clock count, Fits32 (s.clock + 1) s.freeCount clock count ∧
    advanceClock s = { s with
      clock := clock
      freeCount := count
      zct := { s.zct with stepDelay := s.zct.standbyDelay }
      ltr := { s.ltr with stepAging := s.ltr.agingPeriod } } := by
  refine ⟨_, _, fitWord_fits (s.clock + 1) s, ?_⟩
  unfold advanceClock
  dsimp only
  rw [fitWord_state]

/-- The state in which a second of cure is counted: the deadlines of the second before it have had their events, and the clock
shows the new one (R124). -/
structure NewSecond (s v : State) : Prop where
  clock : s.clock < Config.maxWord → v.clock = s.clock + 1
  msq : v.msq = s.msq
  hbo : v.hbo = s.hbo
  hrg : v.hrg = s.hrg
  holder : v.dmi.holder = s.dmi.holder
  pending : v.pending = s.pending
  recipe : v.recipe = s.recipe
  heldOpen : v.shc.heldOpen = s.shc.heldOpen
  quiet : s.NothingDue → (s.clock < Config.maxWord → v.freeCount = s.freeCount) ∧ v = { s with
    clock := v.clock
    freeCount := v.freeCount
    zct := { s.zct with stepDelay := s.zct.standbyDelay }
    ltr := { s.ltr with stepAging := s.ltr.agingPeriod } }

theorem newSecond_of_finish (s : State) : NewSecond s (advanceClock (finishSecond s)) := by
  obtain ⟨-, -, -, recipe, heldOpen, holder⟩ := finishSecond_press s
  obtain ⟨clock, count, fits, advanced⟩ := advanceClock_eq (finishSecond s)
  rw [finishSecond_clock, finishSecond_freeCount] at fits
  have now (less : s.clock < Config.maxWord) : clock = s.clock + 1 := (fits less).1
  refine ⟨fun less => ?_, ?_, ?_, ?_, ?_, ?_, ?_, ?_, fun quiet => ?_⟩
  · rw [advanced, ← now less]
  · rw [advanceClock_msq, finishSecond_msq]
  · rw [advanceClock_hbo, finishSecond_hbo]
  · rw [advanceClock_hrg, finishSecond_hrg]
  · rw [advanceClock_dmi, holder]
  · rw [advanceClock_pending, finishSecond_pending]
  · rw [← recipe, State.recipe, State.recipe, advanceClock_shc]
  · rw [advanceClock_shc, heldOpen]
  · rw [finishSecond_quiet quiet] at advanced ⊢
    rw [advanced]
    exact ⟨fun less => (fits less).2, rfl⟩

/-- Settles O56. -/
theorem runSecondCountsTheCure : Obligations.RunSecondCountsTheCure := by
  intro s
  have step : exec .runSecond s = .next (secondStep s) := rfl
  obtain ⟨flags, press, unflagged, -⟩ := finishSecond_press s
  have new := newSecond_of_finish s
  obtain ⟨v, run⟩ : ∃ v, v = advanceClock (finishSecond s) := ⟨_, rfl⟩
  have second : secondStep s = declareCure (countShot v) := by rw [run, secondStep]
  have shots : v.shc.press = s.shc.press.map fun sh => sh.withFlags flags := by rw [run, advanceClock_shc, press]
  rw [← run] at new
  refine ⟨declareCure (countShot v), step.trans (congrArg _ second), fun less => ?_, ?_, ?_, ?_, ?_, ?_, fun quiet => ?_,
    fun sh r there mounted => ?_⟩
  · rw [declareCure_clock, countShot_clock, new.clock less]
  · rw [declareCure_msq, countShot_msq, new.msq]
  · rw [declareCure_hbo, countShot_hbo, new.hbo]
  · rw [declareCure_hrg, countShot_hrg, new.hrg]
  · rw [declareCure_dmi, countShot_dmi, new.holder]
  · rw [declareCure_pending, countShot_pending, new.pending]
  · obtain ⟨counter, same⟩ := new.quiet quiet
    have frame := declare_count_frame v
    refine ⟨fun less => ?_, ?_, ?_, fun absent => ?_⟩
    · rw [declareCure_freeCount, countShot_freeCount, counter less]
    · obtain ⟨t, out⟩ : ∃ t, t = declareCure (countShot v) := ⟨_, rfl⟩
      rw [← out] at frame ⊢
      rw [frame, same]
    · have shc : v.shc = s.shc := (congrArg State.shc same :)
      exact (congrArg State.shc frame :).trans (by rw [shc])
    · have unchanged : v.shc.press = none ∨ v.recipe = none := by
        rw [new.recipe, shots, Option.map_eq_none_iff]
        exact absent
      rw [declare_count_absent unchanged, same]
      exact ⟨rfl, rfl⟩
  · have there' : v.shc.press = some (sh.withFlags flags) := by rw [shots, there]; rfl
    have mounted' : v.recipe = some r := new.recipe.trans mounted
    have judged (z : Fin 12) : (declareCure (countShot v)).judged z = v.judged z := by
      rw [State.judged, State.judged, declareCure_clock, countShot_clock, declareCure_msq, countShot_msq]
    have time : (declareCure (countShot v)).clock = v.clock := by rw [declareCure_clock, countShot_clock]
    have counts := countShot_of there' mounted'
    have phase : (v.counted r (sh.withFlags flags)).phase = sh.phase := rfl
    obtain ⟨sh', found, shape, cured, kept⟩ :=
      declareCure_press (s := v.setPress (v.counted r (sh.withFlags flags))) rfl mounted'
    rw [← counts] at found
    have cavities : sh'.cavities = (v.counted r (sh.withFlags flags)).cavities := (congrArg Shot.cavities shape :)
    have cavity (k : Fin 4) : sh'.cavities.get k =
        (sh.cavities.get k).map fun c => v.countCavity r sh.phase k { c with flags := flags c } := by
      rw [cavities, State.counted_get, Shot.withFlags_get, Option.map_map]
      rfl
    have ripe : (∀ k c', sh'.Holds k c' → r.cureTarget ≤ (c'.cure.map fun u => u.index).getD 0) ↔
        (v.counted r (sh.withFlags flags)).Ripe r := by
      unfold Shot.Ripe Shot.Holds
      rw [cavities]
    refine ⟨sh', found, ?_, fun quiet k uncured => ?_, fun k c u held cure => ?_, ?_⟩
    · rw [shape]
      rfl
    · rw [cavity, unflagged quiet]
      cases held : sh.cavities.get k with
      | none => rfl
      | some c => exact congrArg some (State.countCavity_none (uncured c held))
    · refine ⟨{ c with
        flags := flags c
        cure := some (if accounted sh.phase c.state then v.countCure (r.cavities.get k).mask r.rates.toList u else u) },
        _, ?_, rfl, rfl, rfl, fun quiet => ?_, ?_⟩
      · rw [Shot.Holds, cavity, held]
        exact congrArg some (State.countCavity_of (c := { c with flags := flags c }) cure)
      · rw [unflagged quiet]
      intro inMask accounts cut
      have cutMask : v.cutMask (r.cavities.get k).mask = true ↔ cut := by rw [State.cutMask_iff, new.hbo]
      refine ⟨fun bound => ?_, fun idle => if_neg fun h => idle (accounted_iff.mp h), fun counting => ?_⟩
      · split
        · exact v.index_le_countCure _ _ bound
        · exact le_rfl
      · rw [if_pos (accounted_iff.mpr counting)]
        obtain ⟨seconds, accounting, throttled⟩ := v.countCure_seconds (r.cavities.get k).mask r.rates.toList u
        refine ⟨seconds, accounting, fun cut => ?_, fun uncut => ?_, fun blind => ?_, fun m least reached => ?_⟩
        · rw [throttled, if_pos (cutMask.mpr cut)]
        · rw [throttled, if_neg fun h => uncut (cutMask.mp h)]
        · simp only [judged] at blind
          rw [v.countCure_blind _ u (State.blindMask_iff.mpr blind)]
          exact ⟨rfl, rfl, rfl, rfl, rfl⟩
        · have seen : v.blindMask (r.cavities.get k).mask = false := by
            rw [← Bool.not_eq_true, State.blindMask_iff]
            rintro ⟨z, masked, unusable⟩
            exact unusable ((judged z).symm.trans (least z masked).1)
          have effective : v.effective (r.cavities.get k).mask = some m := by
            rw [← new.msq] at least reached
            exact State.effective_of (fun z masked => (least z masked).2) reached
          obtain ⟨minT, maxT⟩ := u.counted_extremes m (rateOf r.rates.toList m)
          rw [v.countCure_counted _ u seen effective]
          exact ⟨rfl, rfl, minT, maxT, rfl⟩
    · intro target
      refine ⟨fun curing all => ?_, fun h => ?_⟩
      · have reached := ripe.mp all
        obtain ⟨declared, times⟩ := cured curing reached
        have whole := (congrArg declareCure counts).trans
          (declareCure_of (s := v.setPress (v.counted r (sh.withFlags flags))) rfl mounted' curing reached)
        have indices : (sh'.enabled.map fun x => (x.1.val, (x.2.cure.map fun u => u.index).getD 0)) =
            (v.counted r (sh.withFlags flags)).indices := by
          rw [Shot.indices, Shot.enabled, Shot.enabled, cavities]
        refine ⟨declared, ?_, ?_⟩
        · rw [times, time]
          rfl
        · intro notice
          have body : notice.body = .cured sh.number v.clock (v.counted r (sh.withFlags flags)).indices := by
            rw [← indices, ← time]
          have pressPort : (declareCure (countShot v)).ports.press =
              (v.told .press (s.shc.heldOpen.toList.map NoticeBody.openGranted ++ [notice.body])).ports.press := by
            rw [body, ← new.heldOpen]
            exact (congrArg (fun t : State => t.ports.press) whole).trans (State.told_get_congr .press _ rfl rfl)
          have open_ : (declareCure (countShot v)).ports.openOutcome =
              if s.shc.heldOpen.isSome then some .granted else v.ports.openOutcome := by
            rw [← new.heldOpen]
            exact (congrArg (fun t : State => t.ports.openOutcome) whole :)
          refine ⟨fun quiet => ?_, ?_, fun absent => ?_, fun n held => ⟨?_, ?_⟩⟩
          · have ports : v.ports = s.ports := (congrArg State.ports (new.quiet quiet).2 :)
            have frame : (declareCure (countShot v)).ports = { v.ports with
                press := (declareCure (countShot v)).ports.press
                openOutcome := (declareCure (countShot v)).ports.openOutcome } := by
              rw [whole]
              rfl
            have told := State.told_get_congr (s := v) (t := { s with clock := (declareCure (countShot v)).clock }) .press
              (s.shc.heldOpen.toList.map NoticeBody.openGranted ++ [notice.body]) (congrArg Ports.press ports :) time.symm
            rw [frame, pressPort.trans told, open_, ports]
            rfl
          · exact (congrArg (fun t : State => t.shc.heldOpen) whole :)
          · rw [pressPort, absent]
            exact (v.told_newest .press [] notice.body).trans (by rw [← time])
          · rw [open_, held]
            rfl
          · obtain ⟨old, notices⟩ := State.told_suffix .press [.openGranted n, notice.body] v
              (show 2 ≤ Config.noticeRoom by decide)
            rw [pressPort, held]
            exact ⟨old, notices.symm.trans (by rw [← time]; rfl)⟩
      · have unripe := h.imp_right fun left reached => left (ripe.mpr reached)
        have still : declareCure (countShot v) = countShot v := by
          rw [counts]
          exact declareCure_quiet (curedShot_none rfl mounted' unripe)
        obtain ⟨phase, times⟩ := kept unripe
        refine ⟨phase, times, ?_, fun quiet => ?_⟩
        · rw [still, counts]
          exact new.heldOpen
        · rw [still, countShot_ports, (new.quiet quiet).2]

end Sys2Proof.Machine
end
